-- ==== Sys2Proof/Word.lean ====
section
/-! DEFINITION. The word types of the TN-840's wire formats (chapter 10): bytes, 16-bit and 32-bit fields. -/

namespace Sys2Proof

/-- One byte of a telegram, or one character of the drive link. -/
abbrev Byte := BitVec 8

/-- A two-byte field: tags, ids, lengths, sequence numbers, CRCs. -/
abbrev Half := BitVec 16

/-- A four-byte field: route distances and parameter values. -/
abbrev Word := BitVec 32

end Sys2Proof
end

