-- ==== Sys2Proof/Syntax.lean ====
section
/-! DEFINITION. The commands of the TN-840: one constructor per row of spec/opcode_table.json, in the table's order.
Operands are the raw fields of chapter 10's formats, so every value a field can hold is an operand. -/

namespace Sys2Proof

/-- The two trunk ports. -/
inductive Port where
  | A | B
  deriving DecidableEq, Repr

/-- The other port of the node. -/
def Port.other : Port → Port
  | .A => .B
  | .B => .A

/-- The two tilt channels, named by the drive they serve (0.5.6). -/
inductive Channel where
  | CH1 | CH2
  deriving DecidableEq, Repr

/-- The partner channel. -/
def Channel.other : Channel → Channel
  | .CH1 => .CH2
  | .CH2 => .CH1

/-- The three trunk rates, in kbit/s. -/
inductive Rate where
  | kbit1250 | kbit2500 | kbit5000
  deriving DecidableEq, Repr

/-- What the receiver of a port in TRAINING makes of one symbol: a good training symbol at a rate, or (none) no good
training symbol at any rate (R146). -/
abbrev TrainingSymbol := Option Rate

/-- How a telegram comes in: the arrival port and the header fields that its kind does not fix (TABLE 10-I). -/
structure Arrival where
  port : Port
  dest : Byte
  source : Byte
  tag : Half
  deriving DecidableEq, Repr

/-- A telegram as it stands in a queue: the header of TABLE 10-I and the payload. The length field is the payload's
length and the CRC is computed (R166), since only good telegrams and the node's own are held. -/
structure Telegram where
  kind : Byte
  dest : Byte
  source : Byte
  tag : Half
  payload : List Byte
  deriving DecidableEq, Repr

/-- The bytes received from a start delimiter to the end of the CRC, and whether any symbol had an error (R148). -/
structure Received where
  symbolError : Bool
  bytes : List Byte
  deriving DecidableEq, Repr

/-- The POSITION payload (TABLE 10-III). -/
structure PositionBody where
  sequence : Half
  distance : Word
  speed : Half
  direction : Byte
  flags : Byte
  deriving DecidableEq, Repr

/-- The SEGMENT payload (TABLE 10-IV). -/
structure SegmentBody where
  id : Half
  start : Word
  length : Half
  kind : Byte
  entryClass : Byte
  entryHand : Byte
  entryCant : Byte
  exitClass : Byte
  exitHand : Byte
  exitCant : Byte
  tiltLimit : Byte
  rateLimit : Byte
  flags : Byte
  deriving DecidableEq, Repr

/-- One triplet of a TABLE WRITE (R32). -/
structure Triplet where
  cls : Byte
  band : Byte
  value : Byte
  deriving DecidableEq, Repr

/-- What a telegram of a kind that the node acts on says, by the layouts of 10.2. -/
inductive Body where
  | position (b : PositionBody)
  | segment (b : SegmentBody)
  | withdraw (granularity : Byte) (id : Half)
  | snapshot
  | enumerate (next : Byte)
  | param (ident : Byte) (value : Word)
  | tableWrite (bank : Byte) (triplets : List Triplet)
  | tableThresholds (bank first : Byte) (values : List Half)
  | tableTrim (bank cls trim : Byte)
  | bankVerify (bank : Byte)
  | bankSwap
  | command (code : Byte)
  | query (item arg1 arg2 : Byte)
  deriving DecidableEq, Repr

/-- One character received on the drive link, as the nine bits that follow its start bit at 0: bit 0 is the first on the
line; bits 0 to 7 are the data bits and bit 8 is the stop bit as received (R169). -/
structure LineChar where
  bits : BitVec 9
  deriving DecidableEq, Repr

/-- The commands: one constructor per row of spec/opcode_table.json. -/
inductive Instr where
  /-- The rising edge of RST_N, with the levels of RATE_SEL1 and RATE_SEL0 at that edge (R170, R171). -/
  | powerOnReset (rateSel1 rateSel0 : Bool)
  | signalAppears (p : Port)
  /-- The symbols received on a TRAINING port, up to the count of 16 (R146). -/
  | portUp (p : Port) (symbols : List TrainingSymbol)
  | lossOfSignal (p : Port)
  | symbolErrorLimit (p : Port)
  | receptionCheckFailure (p : Port) (r : Received)
  | passThroughTelegram (p : Port) (t : Telegram)
  | unknownKind (p : Port) (t : Telegram)
  | arbiterChoice
  | transitTransmitStart (p : Port)
  | transmissionEnd (p : Port)
  | position (a : Arrival) (b : PositionBody)
  /-- The sampled levels of TACH_A and TACH_B (R45). -/
  | tachTransition (levelA levelB : Bool)
  | segment (a : Arrival) (b : SegmentBody)
  | withdraw (a : Arrival) (granularity : Byte) (id : Half)
  | snapshot (a : Arrival)
  | enumerate (a : Arrival) (next : Byte)
  | param (a : Arrival) (ident : Byte) (value : Word)
  | tableWrite (a : Arrival) (bank : Byte) (triplets : List Triplet)
  | tableThresholds (a : Arrival) (bank first : Byte) (values : List Half)
  | tableTrim (a : Arrival) (bank cls trim : Byte)
  | bankVerify (a : Arrival) (bank : Byte)
  | bankSwap (a : Arrival)
  | enable (a : Arrival)
  | disable (a : Arrival)
  | release (a : Arrival)
  | clearFaults (a : Arrival)
  | reset (a : Arrival)
  | queryStatus (a : Arrival) (arg1 arg2 : Byte)
  | queryWindow (a : Arrival) (arg1 arg2 : Byte)
  | querySegment (a : Arrival) (arg1 arg2 : Byte)
  | queryTableRow (a : Arrival) (arg1 arg2 : Byte)
  | queryThresholds (a : Arrival) (arg1 arg2 : Byte)
  | queryFaults (a : Arrival) (arg1 arg2 : Byte)
  | querySnapshot (a : Arrival) (arg1 arg2 : Byte)
  | querySnapshotPeek (a : Arrival) (arg1 arg2 : Byte)
  | queryParam (a : Arrival) (arg1 arg2 : Byte)
  | queryCounters (a : Arrival) (arg1 arg2 : Byte)
  | controlPeriodExpiry
  | demandSent
  /-- The characters of the frame that ended within the window (R91, R92). -/
  | feedbackFrame (chars : List LineChar)
  | exchangeWindowClose
  | lockTimeout (c : Channel)
  | unlockTimeout
  | livenessTimerExpiry
  | resetAsserted
  | startDelimiterReceived (p : Port)
  | malformedCommand (a : Arrival) (code : Byte)
  | malformedQuery (a : Arrival) (item arg1 arg2 : Byte)
  deriving DecidableEq, Repr

end Sys2Proof
end

