-- ==== Sys2Proof/Decode.lean ====
section
/-! DEFINITION. The command a word spells. No row of spec/opcode_table.json gives bits, so no word spells one. The wire
formats of the telegrams are in Machine/Operands.lean. -/

namespace Sys2Proof

/-- The command spelled by the low `nbits` of `w`: none, since no row of the table gives bits. -/
def decodeTableWord (_nbits _w : Nat) : Option Instr := none

end Sys2Proof
end

