-- ==== Sys2Proof/Config.lean ====
section
/-! DEFINITION. What is fixed for every TN-840 (capacities, times), and the two free values of the model. -/

namespace Sys2Proof.Config

/-- FREE VALUE (log entry 18). Of several timers of the node that run out at one instant, which expiry is taken
first: the spec leaves the order open (R99, R134). -/
opaque expiryChoice : Nat → Nat

/-- FREE VALUE (log entry 28). The four bytes that a STATUS report gives for a last fix jump outside signed 32 bits: the
spec lets such a jump arise (R48, R56) and states no value for its field (TABLE 10-IX). -/
opaque unstatedFixJump : Int → BitVec 32

/-- Segments the route window holds (R3). -/
def windowCapacity : Nat := 64

/-- Telegrams a transit queue holds (R151). -/
def transitCapacity : Nat := 4

/-- Telegrams the own queue holds (R152). -/
def ownCapacity : Nat := 8

/-- Records the fault list holds (R137). -/
def faultCapacity : Nat := 8

/-- Transit telegrams sent in a row while an own telegram waits (R153). -/
def arbiterLimit : Nat := 4

/-- Good training symbols that take a port from TRAINING to UP (R146). -/
def trainingLength : Nat := 16

/-- The exchange window, in microseconds (R89). -/
def exchangeWindow : Nat := 2000

/-- The time to send a DEMAND frame, in microseconds (R89). -/
def demandTime : Nat := 100

/-- The largest route distance in a telegram, in dm (TABLE 0-III). -/
def maxDistance : Nat := 2000000000

/-- The largest speed, in cm/s (TABLE 0-III). -/
def maxSpeed : Nat := 10000

/-- The bounds that a count may not carry p_node beyond (R48). -/
def minPosition : Int := -2147480948

/-- See `minPosition`. -/
def maxPosition : Int := 2147480947

end Sys2Proof.Config
end

