-- ==== Sys2Proof/Machine/State.lean ====
section
/-! DEFINITION. The state of the TN-840 (TABLES 1-II, 2-I, 3-I, 4-I, 5-I, 6-I, 7-I, 8-I and the pins of TABLE 10-VIII),
one structure per functional block, and the state after power-on reset. All of it is plain data. -/

namespace Sys2Proof.Machine

/-- The reasons a step stops with a fault. There are none: the spec gives every event of this block an effect, and the
spec's own faults are records and state changes (R123, R135). Safe: nothing is stopped. -/
inductive Fault where
  deriving DecidableEq, Repr

/-- The reasons a step is refused. -/
inductive Refusal where
  /-- Raised by an arm of `exec` whose command has no meaning yet; no arm does. Safe: nothing can be proved of such a
  command's effect. -/
  | notModelled (mnemonic : String)
  deriving DecidableEq, Repr

/-! ## Trunk Unit (TABLE 8-I) -/

/-- The link state of a port's receiver (R146). -/
inductive LinkState where
  | down | training | up
  deriving DecidableEq, Repr

/-- The queue that a telegram being transmitted came from (R147). -/
inductive QueueSource where
  | transit | own
  deriving DecidableEq, Repr

/-- One trunk port. -/
structure PortState where
  link : LinkState
  rate : Option Rate
  trainCount : Nat
  trainRate : Option Rate
  /-- The telegram being received: the bytes since a start delimiter, or none. -/
  receiving : Option (List Byte)
  /-- The telegram being transmitted and its queue, or none. -/
  sending : Option (Telegram × QueueSource)
  deriving DecidableEq, Repr

/-- The Trunk Unit. `queueA` feeds the port A transmitter (B→A), `queueB` the port B transmitter (A→B). -/
structure Trunk where
  portA : PortState
  portB : PortState
  headPort : Option Port
  address : Option Nat
  queueA : List Telegram
  queueB : List Telegram
  own : List Telegram
  arbiter : Nat
  rxErrorsA : Nat
  rxErrorsB : Nat
  wrongSideA : Nat
  wrongSideB : Nat
  /-- Transit drops B→A, of `queueA`. -/
  dropsA : Nat
  /-- Transit drops A→B, of `queueB`. -/
  dropsB : Nat
  ownDrops : Nat
  deriving DecidableEq, Repr

/-! ## Route Window (TABLES 1-I and 1-II) -/

/-- The hand of a curve, relative to travel (R1). -/
inductive Hand where
  | none | left | right
  deriving DecidableEq, Repr

/-- A profile of the track at a point (R1). -/
structure Profile where
  cls : Nat
  hand : Hand
  cant : Nat
  deriving DecidableEq, Repr

/-- The kind of a segment; only a SPIRAL has an exit profile of its own (R2). -/
inductive SegmentKind where
  | constant
  | spiral (exit : Profile)
  deriving DecidableEq, Repr

/-- A segment record (TABLE 1-I). -/
structure Segment where
  id : Nat
  start : Nat
  length : Nat
  kind : SegmentKind
  entry : Profile
  tiltLimit : Option Nat
  rateLimit : Option Nat
  inhibit : Bool
  deriving DecidableEq, Repr

/-- The reasons admission refuses a segment (TABLE 1-III). -/
inductive RefusalReason where
  | malformed | order | gap | mismatch | full
  deriving DecidableEq, Repr

/-- The last-refusal record (R4). -/
structure LastRefusal where
  reason : RefusalReason
  id : Nat
  deriving DecidableEq, Repr

/-- The granularity of a withdrawal, requested or performed (R14, TABLE 1-IV). -/
inductive Granularity where
  | none | one | from | all
  deriving DecidableEq, Repr

/-- The last-withdrawal record (R16). -/
structure LastWithdrawal where
  requested : Granularity
  id : Option Nat
  performed : Granularity
  removed : Nat
  deriving DecidableEq, Repr

/-- The Route Window; `segments` runs from head to tail. -/
structure RouteWindow where
  segments : List Segment
  lastRefusal : Option LastRefusal
  lastWithdrawal : Option LastWithdrawal
  refusals : Nat
  reported : Bool
  runouts : Nat
  deriving DecidableEq, Repr

/-! ## Schedule Tables (TABLE 2-I) -/

/-- The two schedule banks. -/
inductive BankName where
  | A | B
  deriving DecidableEq, Repr

/-- The other bank. -/
def BankName.other : BankName → BankName
  | .A => .B
  | .B => .A

/-- The state of a bank (R29). -/
inductive BankState where
  | empty | loading | verified
  deriving DecidableEq, Repr

/-- One bank: 32 rows of 16 entries, 15 thresholds, and its state (R27, R29). -/
structure Bank where
  rows : List (List Nat)
  thresholds : List Nat
  state : BankState
  deriving DecidableEq, Repr

/-- The Schedule Tables. -/
structure Tables where
  bankA : Bank
  bankB : Bank
  active : BankName
  swapPending : Bool
  deriving DecidableEq, Repr

/-! ## Odometry Unit (TABLE 3-I) -/

/-- The held direction of travel (R60). -/
inductive Direction where
  | forward | backward
  deriving DecidableEq, Repr

/-- The Odometry Unit. The active wheel factor is the parameter WHEEL_FACTOR (TABLE 3-I note 1). -/
structure Odometry where
  phase : Option (Bool × Bool)
  pNode : Int
  fraction : Nat
  aligned : Bool
  stagedFactor : Option Int
  lastSequence : Option Half
  speed : Nat
  direction : Direction
  discrepancies : Nat
  phaseFaults : Nat
  lastFixJump : Option Int
  stalePositions : Nat
  phaseFaultTotal : Nat
  deriving DecidableEq, Repr

/-! ## Demand Generator (TABLE 4-I) -/

/-- The Demand Generator; `timer` is the time remaining in microseconds, `period` the period in force in ms. -/
structure Generator where
  timer : Nat
  period : Nat
  last1 : Int
  last2 : Int
  runout : Bool
  deriving DecidableEq, Repr

/-! ## Tilt Channels and drive link (TABLE 5-I) -/

/-- The states of a channel (TABLE 5-IV). -/
inductive ChannelState where
  | locked | unlocking | tracking | returning | locking | failed
  deriving DecidableEq, Repr

/-- The lock state a drive reports (TABLE 10-VII). -/
inductive LockState where
  | engaged | travelling | released
  deriving DecidableEq, Repr

/-- The lock request of a DEMAND frame (TABLE 10-VI). -/
inductive LockRequest where
  | engage | release
  deriving DecidableEq, Repr

/-- The feedback record: the measured angle is in the travel frame (R94). -/
structure Feedback where
  measured : Int
  lock : LockState
  fault : Nat
  deriving DecidableEq, Repr

/-- One tilt channel; `lockTimer` is the time remaining in microseconds, or none when stopped. -/
structure TiltChannel where
  state : ChannelState
  lockTimer : Option Nat
  mark : Bool
  sequence : Byte
  lastSent : Int
  feedback : Option Feedback
  misses : Nat
  persistence : Nat
  lateFeedbacks : Nat
  deriving DecidableEq, Repr

/-- The fields of a DEMAND frame before its check character (R90); `demand` is in the car frame. -/
structure DemandFrame where
  drive : Channel
  sequence : Byte
  demand : Int
  lock : LockRequest
  deriving DecidableEq, Repr

/-- The exchange phase; `remaining` is the time until the frame's last character is sent, in microseconds. -/
inductive LinkPhase where
  | idle
  | sending (f : DemandFrame) (remaining : Nat)
  | listening (f : DemandFrame)
  deriving DecidableEq, Repr

/-- The channels and the link. `waiting` is the frame that the expiry fixed for drive 2, until drive 1's exchange ends
(R89, R90); `window` is the time the exchange window stays open, in microseconds, or none when closed. -/
structure Tilt where
  ch1 : TiltChannel
  ch2 : TiltChannel
  phase : LinkPhase
  waiting : Option DemandFrame
  window : Option Nat
  deriving DecidableEq, Repr

/-- The exchange defects (TABLE 5-III). -/
inductive ExchangeDefect where
  | noReply | short | long | check | wrongDrive | stale
  deriving DecidableEq, Repr

/-! ## Node Control (TABLES 6-I and 6-VII) -/

/-- The node states (TABLE 6-II). -/
inductive NodeState where
  | offline | standby | active | winddown | safe
  deriving DecidableEq, Repr

/-- The 20 parameters of TABLE 6-VII and the four valid flags. -/
structure Params where
  carOffset : Int
  carOffsetValid : Bool
  bogieOffset1 : Int
  bogieOffset1Valid : Bool
  bogieOffset2 : Int
  bogieOffset2Valid : Bool
  tachSense : Int
  wheelFactor : Int
  wheelFactorValid : Bool
  leadTime : Int
  period : Int
  authority : Int
  staleLimit : Int
  rollRate : Int
  returnRate : Int
  watchInterval : Int
  snapLimit : Int
  discrepancyLimit : Int
  trackBand : Int
  trackPersist : Int
  centreBand : Int
  lockTimeout : Int
  feedbackMissLimit : Int
  phaseFaultLimit : Int
  deriving DecidableEq, Repr

/-- Node Control; `unlockTimer` is the time remaining in microseconds, or none when stopped. -/
structure NodeControl where
  state : NodeState
  params : Params
  unlockTimer : Option Nat
  deriving DecidableEq, Repr

/-! ## Supervision Unit (TABLES 7-I to 7-III) -/

/-- The liveness stages (7.2.1). -/
inductive Stage where
  | fresh | stale | lost
  deriving DecidableEq, Repr

/-- The fault classes (TABLE 7-II). -/
inductive FaultClass where
  | liveness | odometry | drive | feedback | tracking | unlockTimeout | lockTimeout | lockLost | window | enumeration
  deriving DecidableEq, Repr

/-- A fault record (R136). -/
structure FaultRecord where
  sequence : Byte
  cls : FaultClass
  channel : Option Channel
  node : NodeState
  pNode : Option Int
  detail : Nat
  deriving DecidableEq, Repr

/-- The four items that a snapshot and a STATUS report give for a channel (R109). -/
structure ChannelView where
  state : ChannelState
  lastDemand : Int
  feedback : Option (Int × LockState)
  deriving DecidableEq, Repr

/-- The contents of a LATCHED snapshot register (TABLE 7-III). -/
structure Snapshot where
  tag : Half
  node : NodeState
  stage : Stage
  aligned : Bool
  pNode : Int
  speed : Nat
  ch1 : ChannelView
  ch2 : ChannelView
  depth : Nat
  active : BankName
  deriving DecidableEq, Repr

/-- The Supervision Unit; the snapshot register is none when EMPTY. -/
structure Supervision where
  stage : Stage
  timer : Option Nat
  faults : List FaultRecord
  overflow : Bool
  overflowCount : Nat
  sequence : Byte
  snapshot : Option Snapshot
  ignoredSnapshots : Nat
  deriving DecidableEq, Repr

/-- The input pins whose level the node holds: RST_N, and RATE_SEL as read at the last power-on reset (R170, R171). -/
structure Pins where
  rstN : Bool
  rateSel1 : Bool
  rateSel0 : Bool
  deriving DecidableEq, Repr

/-- The whole node, with the commands that wait (log entry 1) and the count of free choices made (log entry 18). -/
structure State where
  pins : Pins
  trunk : Trunk
  window : RouteWindow
  tables : Tables
  odometry : Odometry
  generator : Generator
  tilt : Tilt
  node : NodeControl
  supervision : Supervision
  freeCount : Nat
  pending : List Instr
  deriving DecidableEq, Repr

/-! ## Reset values -/

/-- A port after power-on reset (TABLE 8-I). -/
def PortState.initial : PortState where
  link := .down
  rate := none
  trainCount := 0
  trainRate := none
  receiving := none
  sending := none

/-- The Trunk Unit after power-on reset (TABLE 8-I). -/
def Trunk.initial : Trunk where
  portA := PortState.initial
  portB := PortState.initial
  headPort := none
  address := none
  queueA := []
  queueB := []
  own := []
  arbiter := 0
  rxErrorsA := 0
  rxErrorsB := 0
  wrongSideA := 0
  wrongSideB := 0
  dropsA := 0
  dropsB := 0
  ownDrops := 0

/-- The Route Window after either reset (TABLE 1-II). -/
def RouteWindow.initial : RouteWindow where
  segments := []
  lastRefusal := none
  lastWithdrawal := none
  refusals := 0
  reported := false
  runouts := 0

/-- A bank after either reset (TABLE 2-I). -/
def Bank.initial : Bank where
  rows := List.replicate 32 (List.replicate 16 0)
  thresholds := List.replicate 15 0
  state := .empty

/-- The Schedule Tables after either reset (TABLE 2-I). -/
def Tables.initial : Tables where
  bankA := Bank.initial
  bankB := Bank.initial
  active := .A
  swapPending := false

/-- The Odometry Unit after either reset (TABLE 3-I). -/
def Odometry.initial : Odometry where
  phase := none
  pNode := 0
  fraction := 0
  aligned := false
  stagedFactor := none
  lastSequence := none
  speed := 0
  direction := .forward
  discrepancies := 0
  phaseFaults := 0
  lastFixJump := none
  stalePositions := 0
  phaseFaultTotal := 0

/-- The Demand Generator after either reset (TABLE 4-I). -/
def Generator.initial : Generator where
  timer := 10000
  period := 10
  last1 := 0
  last2 := 0
  runout := false

/-- A channel after either reset (TABLE 5-I): LOCKING, its timer running for the default LOCK_TIMEOUT. -/
def TiltChannel.initial : TiltChannel where
  state := .locking
  lockTimer := some 1500000
  mark := false
  sequence := 0
  lastSent := 0
  feedback := none
  misses := 0
  persistence := 0
  lateFeedbacks := 0

/-- The channels and the link after either reset (TABLE 5-I). -/
def Tilt.initial : Tilt where
  ch1 := TiltChannel.initial
  ch2 := TiltChannel.initial
  phase := .idle
  waiting := none
  window := none

/-- The parameters after either reset (TABLE 6-VII); a parameter without a default holds no value, which R168 note 1
reports as 0. -/
def Params.initial : Params where
  carOffset := 0
  carOffsetValid := false
  bogieOffset1 := 0
  bogieOffset1Valid := false
  bogieOffset2 := 0
  bogieOffset2Valid := false
  tachSense := 0
  wheelFactor := 0
  wheelFactorValid := false
  leadTime := 800
  period := 10
  authority := 80
  staleLimit := 40
  rollRate := 40
  returnRate := 20
  watchInterval := 250
  snapLimit := 20
  discrepancyLimit := 4
  trackBand := 15
  trackPersist := 20
  centreBand := 3
  lockTimeout := 1500
  feedbackMissLimit := 3
  phaseFaultLimit := 16

/-- Node Control after power-on reset (TABLE 6-I). -/
def NodeControl.initial : NodeControl where
  state := .offline
  params := Params.initial
  unlockTimer := none

/-- The Supervision Unit after power-on reset (TABLE 7-I). -/
def Supervision.initial : Supervision where
  stage := .lost
  timer := none
  faults := []
  overflow := false
  overflowCount := 0
  sequence := 0
  snapshot := none
  ignoredSnapshots := 0

/-- The node right after power-on reset, RST_N high. DESIGN CHOICE (log entry 5): RATE_SEL was read as 0,0. -/
def State.reset : State where
  pins := { rstN := true, rateSel1 := false, rateSel0 := false }
  trunk := Trunk.initial
  window := RouteWindow.initial
  tables := Tables.initial
  odometry := Odometry.initial
  generator := Generator.initial
  tilt := Tilt.initial
  node := NodeControl.initial
  supervision := Supervision.initial
  freeCount := 0
  pending := []

end Sys2Proof.Machine
end

