-- ==== Sys2Proof/Machine/Operands.lean ====
section
/-! DEFINITION. The operand forms of the commands: the byte layouts of chapter 10 in both directions, the CRC of the
trunk and the check character of the drive link, and the codes of the coded fields. -/

namespace Sys2Proof.Machine

/-! ## Bytes (0.5.10: most significant byte first) -/

/-- A two-byte field from its bytes. -/
def half (hi lo : Byte) : Half := hi ++ lo

/-- A four-byte field from its bytes. -/
def word (b3 b2 b1 b0 : Byte) : Word := b3 ++ b2 ++ b1 ++ b0

/-- The bytes of a two-byte field. -/
def halfBytes (h : Half) : List Byte := [h.extractLsb' 8 8, h.extractLsb' 0 8]

/-- The bytes of a four-byte field. -/
def wordBytes (w : Word) : List Byte :=
  [w.extractLsb' 24 8, w.extractLsb' 16 8, w.extractLsb' 8 8, w.extractLsb' 0 8]

/-- One byte holding a number. -/
def byteOf (n : Nat) : Byte := BitVec.ofNat 8 n

/-- One signed byte. -/
def signedByte (i : Int) : Byte := BitVec.ofInt 8 i

/-- Two bytes holding a number. -/
def nat16 (n : Nat) : List Byte := halfBytes (BitVec.ofNat 16 n)

/-- Two bytes holding a signed number. -/
def int16 (i : Int) : List Byte := halfBytes (BitVec.ofInt 16 i)

/-- Four bytes holding a number. -/
def nat32 (n : Nat) : List Byte := wordBytes (BitVec.ofNat 32 n)

/-- Four bytes holding a signed number. -/
def int32 (i : Int) : List Byte := wordBytes (BitVec.ofInt 32 i)

/-- A flag byte: 0 clear or absent, 1 set or present (TABLE 10-X). -/
def flagByte (b : Bool) : Byte := if b then 1 else 0

/-! ## CRC-16 of the trunk (R166) and the check character of the drive link (R169) -/

/-- One bit into the CRC register. -/
def crc16Bit (reg : Half) (bit : Bool) : Half :=
  if bit != reg.msb then (reg <<< 1) ^^^ 0x1021#16 else reg <<< 1

/-- One bit into the check register. -/
def crc8Bit (reg : Byte) (bit : Bool) : Byte :=
  if bit != reg.msb then (reg <<< 1) ^^^ 0x07#8 else reg <<< 1

/-- The bits of a byte, most significant first. -/
def bitsOf (b : Byte) : List Bool :=
  [b.getMsbD 0, b.getMsbD 1, b.getMsbD 2, b.getMsbD 3, b.getMsbD 4, b.getMsbD 5, b.getMsbD 6, b.getMsbD 7]

/-- The CRC over bytes, from all ones (R166). -/
def crc16 (bytes : List Byte) : Half :=
  bytes.foldl (fun reg b => (bitsOf b).foldl crc16Bit reg) 0xFFFF#16

/-- The check character over characters, from 0 (R169). -/
def crc8 (chars : List Byte) : Byte :=
  chars.foldl (fun reg b => (bitsOf b).foldl crc8Bit reg) 0#8

/-! ## Telegram kinds (TABLE 8-II) and permitted lengths (TABLE 10-II) -/

def kindPosition : Byte := 1
def kindSegment : Byte := 2
def kindWithdraw : Byte := 3
def kindSnapshot : Byte := 4
def kindEnumerate : Byte := 5
def kindParam : Byte := 16
def kindTableWrite : Byte := 17
def kindTableThresholds : Byte := 18
def kindTableTrim : Byte := 19
def kindBankVerify : Byte := 20
def kindBankSwap : Byte := 21
def kindCommand : Byte := 22
def kindQuery : Byte := 23
def kindAck : Byte := 32
def kindReport : Byte := 33
def kindAlert : Byte := 34

/-- The destination of a telegram for the supervisor (TABLE 10-I). -/
def supervisorAddress : Byte := 32

/-- One of the broadcast kinds 1 to 5. -/
def isBroadcastKind (k : Byte) : Bool := decide (1 ≤ k.toNat ∧ k.toNat ≤ 5)

/-- One of the management kinds 16 to 23. -/
def isManagementKind (k : Byte) : Bool := decide (16 ≤ k.toNat ∧ k.toNat ≤ 23)

/-- The payload lengths that the LENGTH check permits (TABLES 8-III and 10-II); an unknown kind is held to 40 only. -/
def permittedLength (kind : Byte) (n : Nat) : Bool :=
  decide (n ≤ 40) &&
  match kind.toNat with
  | 1 => n == 10
  | 2 => n == 18
  | 3 => n == 3
  | 4 => n == 0
  | 5 => n == 1
  | 16 => n == 5
  | 17 => decide (4 ≤ n ∧ n ≤ 22 ∧ (n - 1) % 3 = 0)
  | 18 => decide (4 ≤ n ∧ n ≤ 32 ∧ n % 2 = 0)
  | 19 => n == 3
  | 20 => n == 1
  | 21 => n == 0
  | 22 => n == 1
  | 23 => n == 3
  | 32 => n == 4
  | 33 => decide (4 ≤ n)
  | 34 => n == 4
  | _ => true

end Sys2Proof.Machine

namespace Sys2Proof
open Sys2Proof.Machine

/-- Whether a telegram's payload passes LENGTH (TABLE 8-III). -/
def Telegram.lengthOk (t : Telegram) : Bool := permittedLength t.kind t.payload.length

/-- The bytes the CRC covers: the header of TABLE 10-I and the payload (R166). -/
def Telegram.covered (t : Telegram) : List Byte :=
  [t.kind, t.dest, t.source] ++ halfBytes t.tag ++ [byteOf t.payload.length] ++ t.payload

/-- The bytes sent after the start delimiter (R166). -/
def Telegram.bytes (t : Telegram) : List Byte := t.covered ++ halfBytes (crc16 t.covered)

/-- A telegram of a kind, with the header fields of an arrival. -/
def Arrival.telegram (a : Arrival) (kind : Byte) (payload : List Byte) : Telegram where
  kind := kind
  dest := a.dest
  source := a.source
  tag := a.tag
  payload := payload

/-! ## Payload layouts of the kinds the node acts on (TABLES 10-II to 10-IV) -/

/-- The POSITION payload (TABLE 10-III). -/
def PositionBody.payload (b : PositionBody) : List Byte :=
  halfBytes b.sequence ++ wordBytes b.distance ++ halfBytes b.speed ++ [b.direction, b.flags]

/-- The SEGMENT payload (TABLE 10-IV). -/
def SegmentBody.payload (b : SegmentBody) : List Byte :=
  halfBytes b.id ++ wordBytes b.start ++ halfBytes b.length ++
    [b.kind, b.entryClass, b.entryHand, b.entryCant, b.exitClass, b.exitHand, b.exitCant, b.tiltLimit, b.rateLimit,
      b.flags]

/-- The triplets of a TABLE WRITE, in telegram order. -/
def tripletBytes : List Triplet → List Byte
  | [] => []
  | t :: ts => t.cls :: t.band :: t.value :: tripletBytes ts

/-- The thresholds of a TABLE THRESHOLDS, in telegram order. -/
def valueBytes : List Half → List Byte
  | [] => []
  | v :: vs => halfBytes v ++ valueBytes vs

/-- The kind of a telegram with this body (TABLE 8-II). -/
def Body.kind : Body → Byte
  | .position _ => kindPosition
  | .segment _ => kindSegment
  | .withdraw _ _ => kindWithdraw
  | .snapshot => kindSnapshot
  | .enumerate _ => kindEnumerate
  | .param _ _ => kindParam
  | .tableWrite _ _ => kindTableWrite
  | .tableThresholds _ _ _ => kindTableThresholds
  | .tableTrim _ _ _ => kindTableTrim
  | .bankVerify _ => kindBankVerify
  | .bankSwap => kindBankSwap
  | .command _ => kindCommand
  | .query _ _ _ => kindQuery

/-- The payload of a telegram with this body (TABLE 10-II). -/
def Body.payload : Body → List Byte
  | .position b => b.payload
  | .segment b => b.payload
  | .withdraw g id => g :: halfBytes id
  | .snapshot => []
  | .enumerate n => [n]
  | .param i v => i :: wordBytes v
  | .tableWrite bank ts => bank :: tripletBytes ts
  | .tableThresholds bank first vs => bank :: first :: valueBytes vs
  | .tableTrim bank cls trim => [bank, cls, trim]
  | .bankVerify bank => [bank]
  | .bankSwap => []
  | .command code => [code]
  | .query item a1 a2 => [item, a1, a2]

/-- The telegram that arrives with this body. -/
def Body.telegram (b : Body) (a : Arrival) : Telegram := a.telegram b.kind b.payload

/-- A POSITION payload read by TABLE 10-III. -/
def readPosition : List Byte → Option Body
  | [q1, q0, d3, d2, d1, d0, v1, v0, dir, fl] =>
    some (.position
      { sequence := half q1 q0, distance := word d3 d2 d1 d0, speed := half v1 v0, direction := dir, flags := fl })
  | _ => none

/-- A SEGMENT payload read by TABLE 10-IV. -/
def readSegment : List Byte → Option Body
  | [i1, i0, s3, s2, s1, s0, l1, l0, k, nc, nh, nt, xc, xh, xt, tl, rl, fl] =>
    some (.segment
      { id := half i1 i0, start := word s3 s2 s1 s0, length := half l1 l0, kind := k, entryClass := nc,
        entryHand := nh, entryCant := nt, exitClass := xc, exitHand := xh, exitCant := xt, tiltLimit := tl,
        rateLimit := rl, flags := fl })
  | _ => none

/-- A WITHDRAW payload. -/
def readWithdraw : List Byte → Option Body
  | [g, i1, i0] => some (.withdraw g (half i1 i0))
  | _ => none

/-- A SNAPSHOT payload. -/
def readSnapshot : List Byte → Option Body
  | [] => some .snapshot
  | _ => none

/-- An ENUMERATE payload. -/
def readEnumerate : List Byte → Option Body
  | [n] => some (.enumerate n)
  | _ => none

/-- A PARAM payload. -/
def readParam : List Byte → Option Body
  | [i, v3, v2, v1, v0] => some (.param i (word v3 v2 v1 v0))
  | _ => none

/-- Triplets, until the bytes end. -/
def readTriplets : List Byte → Option (List Triplet)
  | [] => some []
  | c :: b :: v :: rest => (readTriplets rest).map ({ cls := c, band := b, value := v } :: ·)
  | _ => none

/-- Two-byte values, until the bytes end. -/
def readValues : List Byte → Option (List Half)
  | [] => some []
  | hi :: lo :: rest => (readValues rest).map (half hi lo :: ·)
  | _ => none

/-- A TABLE WRITE payload. -/
def readTableWrite : List Byte → Option Body
  | bank :: rest => (readTriplets rest).map (.tableWrite bank ·)
  | _ => none

/-- A TABLE THRESHOLDS payload. -/
def readTableThresholds : List Byte → Option Body
  | bank :: first :: rest => (readValues rest).map (.tableThresholds bank first ·)
  | _ => none

/-- A TABLE TRIM payload. -/
def readTableTrim : List Byte → Option Body
  | [bank, cls, trim] => some (.tableTrim bank cls trim)
  | _ => none

/-- A BANK VERIFY payload. -/
def readBankVerify : List Byte → Option Body
  | [bank] => some (.bankVerify bank)
  | _ => none

/-- A BANK SWAP payload. -/
def readBankSwap : List Byte → Option Body
  | [] => some .bankSwap
  | _ => none

/-- A COMMAND payload. -/
def readCommand : List Byte → Option Body
  | [code] => some (.command code)
  | _ => none

/-- A QUERY payload. -/
def readQuery : List Byte → Option Body
  | [item, a1, a2] => some (.query item a1 a2)
  | _ => none

/-- What a telegram says, when its kind is one the node acts on (TABLE 8-II) and its payload is laid out as that kind's
table gives it (R167). -/
def Telegram.body (t : Telegram) : Option Body :=
  match t.kind.toNat with
  | 1 => readPosition t.payload
  | 2 => readSegment t.payload
  | 3 => readWithdraw t.payload
  | 4 => readSnapshot t.payload
  | 5 => readEnumerate t.payload
  | 16 => readParam t.payload
  | 17 => readTableWrite t.payload
  | 18 => readTableThresholds t.payload
  | 19 => readTableTrim t.payload
  | 20 => readBankVerify t.payload
  | 21 => readBankSwap t.payload
  | 22 => readCommand t.payload
  | 23 => readQuery t.payload
  | _ => none

/-! ## Reception (TABLE 8-III) -/

/-- The received header and payload as a telegram, when header and CRC are there at all. -/
def Received.telegram (r : Received) : Option Telegram :=
  match r.bytes with
  | kind :: dest :: source :: t1 :: t0 :: _len :: rest =>
    some { kind := kind, dest := dest, source := source, tag := half t1 t0, payload := rest.take (rest.length - 2) }
  | _ => none

/-- SYMBOL: a symbol had an error. -/
def Received.failsSymbol (r : Received) : Bool := r.symbolError

/-- LENGTH: the length field is not permitted, or the bytes between header and CRC do not number what it says. Fewer
bytes than a header and a CRC fail it too (DEDUCED, log entry 12). -/
def Received.failsLength (r : Received) : Bool :=
  match r.bytes with
  | kind :: _ :: _ :: _ :: _ :: len :: rest =>
    !permittedLength kind len.toNat || rest.length != len.toNat + 2
  | _ => true

/-- CHECK: the two last bytes are not the CRC over the bytes before them. -/
def Received.failsCheck (r : Received) : Bool :=
  let n := r.bytes.length - 2
  r.bytes.drop n != halfBytes (crc16 (r.bytes.take n))

/-- The received bytes pass the three checks. -/
def Received.good (r : Received) : Bool := !r.failsSymbol && !r.failsLength && !r.failsCheck

end Sys2Proof

namespace Sys2Proof.Machine

/-! ## Coded fields -/

/-- A bank field: 1 A, 2 B (TABLE 10-II note 1). -/
def bankOf (b : Byte) : Option BankName :=
  match b.toNat with
  | 1 => some .A
  | 2 => some .B
  | _ => none

/-- A hand field: 0 NONE, 1 LEFT, 2 RIGHT (TABLE 10-IV). -/
def handOf (b : Byte) : Option Hand :=
  match b.toNat with
  | 0 => some .none
  | 1 => some .left
  | 2 => some .right
  | _ => none

/-- A lock state character: 1 ENGAGED, 2 TRAVELLING, 3 RELEASED (TABLE 10-VII). -/
def lockStateOf (b : Byte) : Option LockState :=
  match b.toNat with
  | 1 => some .engaged
  | 2 => some .travelling
  | 3 => some .released
  | _ => none

/-- A WITHDRAW granularity: 1 ONE, 2 FROM, 3 ALL (TABLE 10-II). -/
def granularityOf (b : Byte) : Option Granularity :=
  match b.toNat with
  | 1 => some .one
  | 2 => some .from
  | 3 => some .all
  | _ => none

/-- A POSITION direction: 0 FORWARD, 1 BACKWARD (TABLE 10-III). -/
def directionOf (b : Byte) : Option Direction :=
  match b.toNat with
  | 0 => some .forward
  | 1 => some .backward
  | _ => none

/-- The code of a hand (TABLE 10-IV). -/
def Hand.code : Hand → Byte
  | .none => 0
  | .left => 1
  | .right => 2

/-- The hand sign of R1. -/
def Hand.sign : Hand → Int
  | .none => 0
  | .left => 1
  | .right => -1

/-- Node state codes (TABLE 10-X). -/
def NodeState.code : NodeState → Byte
  | .offline => 0
  | .standby => 1
  | .active => 2
  | .winddown => 3
  | .safe => 4

/-- Fault class codes (TABLE 7-II). -/
def FaultClass.code : FaultClass → Byte
  | .liveness => 1
  | .odometry => 2
  | .drive => 3
  | .feedback => 4
  | .tracking => 5
  | .unlockTimeout => 6
  | .lockTimeout => 7
  | .lockLost => 8
  | .window => 9
  | .enumeration => 10

/-- The node-stopping classes (TABLE 7-II). -/
def FaultClass.stopping : FaultClass → Bool
  | .liveness | .odometry | .drive | .feedback | .tracking | .unlockTimeout | .lockTimeout | .lockLost => true
  | .window | .enumeration => false

/-- Head port codes; 0 stands for an unknown head port, which no delivered query finds (log entry 25). -/
def headPortCode : Option Port → Byte
  | none => 0
  | some .A => 1
  | some .B => 2

/-- Bank codes (TABLE 10-X). -/
def BankName.code : BankName → Byte
  | .A => 1
  | .B => 2

/-- Bank state codes (TABLE 10-X). -/
def BankState.code : BankState → Byte
  | .empty => 0
  | .loading => 1
  | .verified => 2

/-- Liveness stage codes (TABLE 10-X). -/
def Stage.code : Stage → Byte
  | .fresh => 1
  | .stale => 2
  | .lost => 3

/-- Channel state codes (TABLE 10-X). -/
def ChannelState.code : ChannelState → Byte
  | .locked => 1
  | .unlocking => 2
  | .tracking => 3
  | .returning => 4
  | .locking => 5
  | .failed => 6

/-- The channel of a fault record (TABLE 10-X). -/
def channelCode : Option Channel → Byte
  | none => 0
  | some .CH1 => 1
  | some .CH2 => 2

/-- Lock state codes (TABLES 10-VII and 10-X). -/
def LockState.code : LockState → Byte
  | .engaged => 1
  | .travelling => 2
  | .released => 3

/-- Held direction codes (TABLE 10-X). -/
def Direction.code : Direction → Byte
  | .forward => 0
  | .backward => 1

/-- Refusal reason codes (TABLE 1-III). -/
def RefusalReason.code : RefusalReason → Nat
  | .malformed => 1
  | .order => 2
  | .gap => 3
  | .mismatch => 4
  | .full => 5

/-- Granularity codes (TABLE 10-X). -/
def Granularity.code : Granularity → Byte
  | .none => 0
  | .one => 1
  | .from => 2
  | .all => 3

/-- Link state codes (TABLE 10-X). -/
def LinkState.code : LinkState → Byte
  | .down => 0
  | .training => 1
  | .up => 2

/-- Detected rate codes (TABLE 10-X). -/
def rateCode : Option Rate → Byte
  | none => 0
  | some .kbit1250 => 1
  | some .kbit2500 => 2
  | some .kbit5000 => 3

/-- The rate that the RATE_SEL strapping gives; 1,1 gives 1.25 Mbit/s (R171). -/
def rateOfStrap (rateSel1 rateSel0 : Bool) : Rate :=
  match rateSel1, rateSel0 with
  | false, false => .kbit1250
  | false, true => .kbit2500
  | true, false => .kbit5000
  | true, true => .kbit1250

end Sys2Proof.Machine

namespace Sys2Proof

/-! ## Characters on the drive link (R169) -/

/-- The data of a received character: the first data bit on the line is the least significant. -/
def LineChar.data (c : LineChar) : Byte := c.bits.extractLsb' 0 8

/-- A framing error: the stop bit was received as 0. -/
def LineChar.framingError (c : LineChar) : Bool := !c.bits.getLsbD 8

/-- The ten bits of a character as they stand on the line, in order: the start bit at 0, the data bits, the stop bit. -/
def LineChar.line (c : LineChar) : List Bool :=
  [false, c.bits.getLsbD 0, c.bits.getLsbD 1, c.bits.getLsbD 2, c.bits.getLsbD 3, c.bits.getLsbD 4, c.bits.getLsbD 5,
    c.bits.getLsbD 6, c.bits.getLsbD 7, c.bits.getLsbD 8]

/-- A character that carries a byte and whose stop bit is 1. -/
def LineChar.ofByte (b : Byte) : LineChar := { bits := 1#1 ++ b }

end Sys2Proof

namespace Sys2Proof.Machine

/-! ## Drive link frames (TABLES 10-VI and 10-VII) -/

/-- The drive id of a channel's drive. -/
def driveIdOf : Channel → Byte
  | .CH1 => 1
  | .CH2 => 2

/-- Lock request codes (TABLE 10-VI). -/
def LockRequest.code : LockRequest → Byte
  | .engage => 1
  | .release => 2

/-- The first four characters of a DEMAND frame. -/
def DemandFrame.fields (f : DemandFrame) : List Byte :=
  [driveIdOf f.drive, f.sequence, signedByte f.demand, f.lock.code]

/-- The five characters of a DEMAND frame, the check character last (R90, R169). -/
def DemandFrame.chars (f : DemandFrame) : List Byte := f.fields ++ [crc8 f.fields]

/-- The bits of a DEMAND frame on the line, in the order sent (R169). -/
def DemandFrame.line (f : DemandFrame) : List Bool := f.chars.flatMap (fun b => (LineChar.ofByte b).line)

/-- Why an exchange is missed (TABLE 5-III). -/
def defectCode : ExchangeDefect → Nat
  | .noReply => 1
  | .short => 2
  | .long => 3
  | .check => 4
  | .wrongDrive => 5
  | .stale => 6

/-- A received frame judged against the DEMAND of its exchange, in the order of TABLE 5-III: the defect of a missed
exchange, or the measured angle (car frame), lock state and fault code of a good FEEDBACK (R92). -/
def judgeFrame (f : DemandFrame) (chars : List LineChar) : Except ExchangeDefect (Int × LockState × Nat) :=
  match chars with
  | [c1, c2, c3, c4, c5, c6, c7] =>
    if chars.any (·.framingError) || crc8 [c1.data, c2.data, c3.data, c4.data, c5.data, c6.data] != c7.data then
      .error .check
    else
      match lockStateOf c5.data with
      | none => .error .check
      | some lock =>
        if c1.data ≠ driveIdOf f.drive then .error .wrongDrive
        else if c2.data ≠ f.sequence then .error .stale
        else .ok ((half c3.data c4.data).toInt, lock, c6.data.toNat)
  | _ => if chars.length < 7 then .error .short else .error .long

end Sys2Proof.Machine
end

