-- ==== Sys2Proof/Machine/Ops.lean ====
section
/-! DEFINITION. The named operations over the state: one updater per block, the saturating counters, the trunk ports and
queues, the channels, the parameters and the timers. -/

namespace Sys2Proof.Machine

/-! ## Updaters, one per field of State -/

def State.setPins (s : State) (x : Pins) : State := { s with pins := x }
def State.setTrunk (s : State) (x : Trunk) : State := { s with trunk := x }
def State.setWindow (s : State) (x : RouteWindow) : State := { s with window := x }
def State.setTables (s : State) (x : Tables) : State := { s with tables := x }
def State.setOdometry (s : State) (x : Odometry) : State := { s with odometry := x }
def State.setGenerator (s : State) (x : Generator) : State := { s with generator := x }
def State.setTilt (s : State) (x : Tilt) : State := { s with tilt := x }
def State.setNode (s : State) (x : NodeControl) : State := { s with node := x }
def State.setSupervision (s : State) (x : Supervision) : State := { s with supervision := x }
def State.setFreeCount (s : State) (x : Nat) : State := { s with freeCount := x }
def State.setPending (s : State) (x : List Instr) : State := { s with pending := x }

/-! ## Events -/

/-- An event taken by the node: while RST_N is low the node takes no event (R170). -/
def event (f : State → State) (s : State) : Host.Outcome State Fault Refusal :=
  .next (if s.pins.rstN then f s else s)

/-! ## Saturating counters (0.5.7) -/

/-- A 16-bit counter incremented. -/
def bump16 (n : Nat) : Nat := min 65535 (n + 1)

/-- A 16-bit counter incremented k times. -/
def bumpBy16 (n k : Nat) : Nat := min 65535 (n + k)

/-- An 8-bit count incremented. -/
def bump8 (n : Nat) : Nat := min 255 (n + 1)

/-- Whether the increment of a saturating 8-bit count reaches a limit. A count held at 255 is not incremented, so it
reaches nothing (log entry 21). -/
def reaches (n : Nat) (limit : Int) : Bool := decide ((n : Int) + 1 = limit)

/-- A time in ms as microseconds. -/
def micros (ms : Int) : Nat := ms.toNat * 1000

/-! ## Parameters (TABLE 6-VII) -/

/-- The parameters of the node. -/
def State.params (s : State) : Params := s.node.params

/-- Replaces the parameters. -/
def State.setParams (s : State) (p : Params) : State := s.setNode { s.node with params := p }

/-- Replaces the node state. -/
def State.setNodeState (s : State) (n : NodeState) : State := s.setNode { s.node with state := n }

/-- Starts or stops the unlock timer. -/
def State.setUnlockTimer (s : State) (t : Option Nat) : State := s.setNode { s.node with unlockTimer := t }

/-- LOCK_TIMEOUT as held, in microseconds. -/
def State.lockTime (s : State) : Nat := micros s.params.lockTimeout

/-! ## Channels -/

/-- A channel. -/
def State.channel (s : State) : Channel → TiltChannel
  | .CH1 => s.tilt.ch1
  | .CH2 => s.tilt.ch2

/-- Replaces a channel. -/
def State.setChannel (s : State) : Channel → TiltChannel → State
  | .CH1, x => s.setTilt { s.tilt with ch1 := x }
  | .CH2, x => s.setTilt { s.tilt with ch2 := x }

/-- The last demand of a channel, in the travel frame (TABLE 4-I). -/
def State.lastDemand (s : State) : Channel → Int
  | .CH1 => s.generator.last1
  | .CH2 => s.generator.last2

/-- Both channels are in a state. -/
def State.bothIn (s : State) (x : ChannelState) : Bool :=
  decide (s.tilt.ch1.state = x) && decide (s.tilt.ch2.state = x)

/-- Between the travel frame and the car frame: the negation when the head port is B (R82, R94). With an unknown head
port the value is unchanged (R94). -/
def State.turn (s : State) (x : Int) : Int :=
  match s.trunk.headPort with
  | some .B => -x
  | _ => x

/-! ## Trunk ports, queues and counters -/

/-- A port. -/
def Trunk.port (t : Trunk) : Port → PortState
  | .A => t.portA
  | .B => t.portB

/-- Replaces a port. -/
def Trunk.setPort (t : Trunk) : Port → PortState → Trunk
  | .A, x => { t with portA := x }
  | .B, x => { t with portB := x }

/-- A port is UP. -/
def Trunk.isUp (t : Trunk) (p : Port) : Bool := decide ((t.port p).link = .up)

/-- The transit queue that feeds a port's transmitter (R151). -/
def Trunk.queue (t : Trunk) : Port → List Telegram
  | .A => t.queueA
  | .B => t.queueB

/-- Replaces the transit queue that feeds a port's transmitter. -/
def Trunk.setQueue (t : Trunk) : Port → List Telegram → Trunk
  | .A, q => { t with queueA := q }
  | .B, q => { t with queueB := q }

/-- Adds to the transit drop counter of the queue that feeds a port's transmitter. -/
def Trunk.countDrops (t : Trunk) (k : Nat) : Port → Trunk
  | .A => { t with dropsA := bumpBy16 t.dropsA k }
  | .B => { t with dropsB := bumpBy16 t.dropsB k }

/-- Counts an RX error of a port. -/
def Trunk.countRxError (t : Trunk) : Port → Trunk
  | .A => { t with rxErrorsA := bump16 t.rxErrorsA }
  | .B => { t with rxErrorsB := bump16 t.rxErrorsB }

/-- Counts a WRONG_SIDE drop of a port. -/
def Trunk.countWrongSide (t : Trunk) : Port → Trunk
  | .A => { t with wrongSideA := bump16 t.wrongSideA }
  | .B => { t with wrongSideB := bump16 t.wrongSideB }

/-- Adds to the own-queue drop counter. -/
def Trunk.countOwnDrops (t : Trunk) (k : Nat) : Trunk := { t with ownDrops := bumpBy16 t.ownDrops k }

/-- Empties the own queue, each telegram counting as a drop, and clears the arbiter count (R156, R157). -/
def Trunk.discardOwn (t : Trunk) : Trunk := { t.countOwnDrops t.own.length with own := [], arbiter := 0 }

/-- Offers a telegram to the transit queue that feeds a port's transmitter (R151). -/
def Trunk.offer (t : Trunk) (p : Port) (x : Telegram) : Trunk :=
  if t.isUp p ∧ (t.queue p).length < Config.transitCapacity then t.setQueue p (t.queue p ++ [x])
  else t.countDrops 1 p

/-- Whether the own queue takes a telegram: the head port is known and UP and fewer than 8 wait (R152). -/
def Trunk.ownAccepts (t : Trunk) : Bool :=
  match t.headPort with
  | none => false
  | some h => t.isUp h && decide (t.own.length < Config.ownCapacity)

/-- Places a reply or an ALERT in the own queue, or drops it and counts the drop (R152). -/
def Trunk.placeOwn (t : Trunk) (x : Telegram) : Trunk :=
  if t.ownAccepts then { t with own := t.own ++ [x] } else t.countOwnDrops 1

/-- An ALERT waits in the own queue (R140). -/
def Trunk.alertWaits (t : Trunk) : Bool := t.own.any (fun x => decide (x.kind = kindAlert))

/-- The node address as a header byte; 0 when there is none, which no telegram of the node's own finds (log entry 25). -/
def Trunk.addressByte (t : Trunk) : Byte := byteOf (t.address.getD 0)

/-- A telegram that the node originates (R150). -/
def Trunk.originate (t : Trunk) (kind : Byte) (tag : Half) (payload : List Byte) : Telegram where
  kind := kind
  dest := supervisorAddress
  source := t.addressByte
  tag := tag
  payload := payload

/-! ## Replies (R160, TABLES 9-I and 10-V) -/

/-- The result codes of TABLE 9-I. -/
def resultOk : Byte := 0
def resultPending : Byte := 1
def resultBadState : Byte := 2
def resultBusy : Byte := 3
def resultRange : Byte := 4
def resultBadBank : Byte := 5
def resultActiveBank : Byte := 6
def resultNotReady : Byte := 7
def resultMalformed : Byte := 8
def resultUnknownKind : Byte := 9

/-- The four bytes of TABLE 10-V: the echoed kind (or query item), the result, and the detail or its absence. -/
def replyHead (echo result : Byte) (detail : Option Nat) : List Byte :=
  [echo, result, flagByte detail.isSome, byteOf (detail.getD 0)]

/-- The ACK of a telegram (R160). -/
def Trunk.ackTelegram (t : Trunk) (kind : Byte) (tag : Half) (result : Byte) (detail : Option Nat) : Telegram :=
  t.originate kindAck tag (replyHead kind result detail)

/-- The REPORT of a query (R160, R168). -/
def Trunk.reportTelegram (t : Trunk) (item : Byte) (tag : Half) (result : Byte) (detail : Option Nat)
    (contents : List Byte) : Telegram :=
  t.originate kindReport tag (replyHead item result detail ++ contents)

/-- Answers with an ACK. -/
def State.ack (s : State) (kind : Byte) (tag : Half) (result : Byte) (detail : Option Nat) : State :=
  s.setTrunk (s.trunk.placeOwn (s.trunk.ackTelegram kind tag result detail))

/-- Answers with a REPORT. -/
def State.report (s : State) (item : Byte) (tag : Half) (result : Byte) (detail : Option Nat) (contents : List Byte) :
    State :=
  s.setTrunk (s.trunk.placeOwn (s.trunk.reportTelegram item tag result detail contents))

/-! ## What the outside sees on the pins and lines -/

/-- The transmit rate of both trunk ports (R171). -/
def State.transmitRate (s : State) : Rate := rateOfStrap s.pins.rateSel1 s.pins.rateSel0

/-- DL_DIR: high exactly while a DEMAND frame is being sent (R171). -/
def State.dlDir (s : State) : Bool :=
  match s.tilt.phase with
  | .sending _ _ => true
  | _ => false

/-- What the node transmits on the drive link pair: the bits of the DEMAND frame in SENDING, and nothing at every other
time (R89, R169). -/
def State.driveLine (s : State) : List Bool :=
  match s.tilt.phase with
  | .sending f _ => f.line
  | _ => []

/-- What a port's transmitter puts on the line (R146): training symbols at the transmit rate while the port is not UP;
a telegram, or idle fill between telegrams, while it is. -/
inductive LineOutput where
  | training (r : Rate)
  | telegram (t : Telegram)
  | idleFill
  deriving DecidableEq, Repr

/-- See `LineOutput`. -/
def State.lineOutput (s : State) (p : Port) : LineOutput :=
  if s.trunk.isUp p then
    match (s.trunk.port p).sending with
    | some (t, _) => .telegram t
    | none => .idleFill
  else .training s.transmitRate

end Sys2Proof.Machine
end

