-- ==== Sys2Proof/Machine/Flags.lean ====
section
/-! DEFINITION. Faults: the offer to the fault record list with its flags and counts (R136, R137), the effect of a
node-stopping fault on the node (R97, R123), and the ALERT (R139, R140). Every fault of every block goes through
`State.raise`. -/

namespace Sys2Proof.Machine

/-! ## The channel moves of a change of node state -/

/-- A channel entering LOCKING: the lock timer is started, the mark and the persistence counter are cleared (R98, R102,
R106). -/
def TiltChannel.enterLocking (c : TiltChannel) (time : Nat) : TiltChannel :=
  { c with state := .locking, lockTimer := some time, mark := false, persistence := 0 }

/-- The move of a channel when the node goes to WINDDOWN or SAFE (R97). -/
def TiltChannel.standDown (c : TiltChannel) (time : Nat) : TiltChannel :=
  match c.state with
  | .tracking | .returning => { c with state := .returning }
  | .unlocking => c.enterLocking time
  | .locked | .locking | .failed => c

/-- Node Control leaves for WINDDOWN or SAFE: the unlock timer stops, both channels move by R97 and the runout cause is
cleared (R74, R117, R123). -/
def State.standDown (s : State) (n : NodeState) : State :=
  ((s.setNode { s.node with state := n, unlockTimer := none }).setTilt
    { s.tilt with ch1 := s.tilt.ch1.standDown s.lockTime, ch2 := s.tilt.ch2.standDown s.lockTime }).setGenerator
    { s.generator with runout := false }

/-- The effect of a node-stopping fault (R123): SAFE from STANDBY, ACTIVE or WINDDOWN, and nothing in SAFE or OFFLINE. -/
def State.stop (s : State) : State :=
  match s.node.state with
  | .standby | .active | .winddown => s.standDown .safe
  | .safe | .offline => s

/-! ## The fault record list -/

/-- p_node as a fault record carries it (R135). -/
def State.faultPosition (s : State) : Option Int := if s.odometry.aligned then some s.odometry.pNode else none

/-- The list holds a record of a class and channel. -/
def Supervision.holds (v : Supervision) (cls : FaultClass) (ch : Option Channel) : Bool :=
  v.faults.any (fun r => decide (r.cls = cls) && decide (r.channel = ch))

/-- What an offer to the list comes to (R136). -/
inductive Offer where
  | suppressed | overflow | stored
  deriving DecidableEq, Repr

/-- The tests of R136, in order. -/
def State.judgeFault (s : State) (cls : FaultClass) (ch : Option Channel) : Offer :=
  if s.node.state = .safe ∧ s.supervision.holds cls ch then .suppressed
  else if Config.faultCapacity ≤ s.supervision.faults.length then .overflow
  else .stored

/-- The record that a fault forms (R135, R136). -/
def State.faultRecord (s : State) (cls : FaultClass) (ch : Option Channel) (detail : Nat) : FaultRecord where
  sequence := s.supervision.sequence
  cls := cls
  channel := ch
  node := s.node.state
  pNode := s.faultPosition
  detail := detail

/-- The Supervision Unit after the offer of a fault (R136). -/
def State.offerFault (s : State) (cls : FaultClass) (ch : Option Channel) (detail : Nat) : Supervision :=
  match s.judgeFault cls ch with
  | .suppressed => s.supervision
  | .overflow =>
    { s.supervision with overflow := true, overflowCount := bump16 s.supervision.overflowCount }
  | .stored =>
    { s.supervision with
      faults := s.supervision.faults ++ [s.faultRecord cls ch detail], sequence := s.supervision.sequence + 1 }

/-- Whether the offer requests an ALERT: at each storage, and when it sets the overflow flag from clear (R139). -/
def State.requestsAlert (s : State) (cls : FaultClass) (ch : Option Channel) : Bool :=
  match s.judgeFault cls ch with
  | .suppressed => false
  | .overflow => !s.supervision.overflow
  | .stored => true

/-! ## ALERT -/

/-- The sequence number of the newest record in the list. -/
def Supervision.newest (v : Supervision) : Byte :=
  match v.faults.getLast? with
  | some r => r.sequence
  | none => 0

/-- The ALERT telegram for a fault, from the state after Node Control has applied the fault (R139). -/
def State.alertTelegram (s : State) (cls : FaultClass) : Telegram :=
  s.trunk.originate kindAlert 0
    [s.supervision.newest, cls.code, s.node.state.code, flagByte s.supervision.overflow]

/-- An ALERT request: it lapses while the head port is unknown, is absorbed while an ALERT waits, and otherwise places
an ALERT (R139, R140). -/
def State.requestAlert (s : State) (cls : FaultClass) : State :=
  if s.trunk.headPort.isSome && !s.trunk.alertWaits then
    s.setTrunk (s.trunk.placeOwn (s.alertTelegram cls))
  else s

/-! ## Raising a fault -/

/-- A fault is raised: it is offered to the list with the node state held, a node-stopping fault then acts on the node,
and an ALERT is requested where the offer asks for one (R123, R135, R136, R139). -/
def State.raise (s : State) (cls : FaultClass) (ch : Option Channel) (detail : Nat) : State :=
  let offered := s.setSupervision (s.offerFault cls ch detail)
  let acted := if cls.stopping then offered.stop else offered
  if s.requestsAlert cls ch then acted.requestAlert cls else acted

end Sys2Proof.Machine
end

