-- ==== Sys2Proof/Machine/Odometry.lean ====
section
/-! DEFINITION. The Odometry Unit: tach decoding, the accumulator, and the acceptance of POSITION telegrams (chapter 3),
with the liveness restart of R131. -/

namespace Sys2Proof.Machine

/-! ## Tach decoding -/

/-- The pair that a raw forward transition leads to (TABLE 3-II). -/
def tachForward : Bool × Bool → Bool × Bool
  | (false, false) => (true, false)
  | (true, false) => (true, true)
  | (true, true) => (false, true)
  | (false, true) => (false, false)

/-- The pair that a raw backward transition leads to (TABLE 3-II). -/
def tachBackward : Bool × Bool → Bool × Bool
  | (false, false) => (false, true)
  | (true, false) => (false, false)
  | (true, true) => (true, false)
  | (false, true) => (true, true)

/-- The effective tach sense: TACH_SENSE exclusive-or the head port being B (R46). -/
def State.effectiveSense (s : State) : Bool :=
  xor (decide (s.params.tachSense = 1)) (decide (s.trunk.headPort = some .B))

/-- The accumulator as one signed quantity, in 1/65536 dm (R48). -/
def Odometry.accumulated (o : Odometry) : Int := o.pNode * 65536 + o.fraction

/-- The accumulator moved by a signed distance, unless that carries p_node beyond its bounds (R48). -/
def Odometry.move (o : Odometry) (distance : Int) : Odometry :=
  let sum := o.accumulated + distance
  let p := sum / 65536
  if Config.minPosition ≤ p ∧ p ≤ Config.maxPosition then
    { o with pNode := p, fraction := (sum % 65536).toNat }
  else o

/-- One count: +1 adds the active wheel factor and -1 subtracts it, when the factor is valid (R48). -/
def State.count (s : State) (positive : Bool) : State :=
  if s.params.wheelFactorValid then
    s.setOdometry (s.odometry.move (if positive then s.params.wheelFactor else -s.params.wheelFactor))
  else s

/-- A phase fault (R47). -/
def State.phaseFault (s : State) : State :=
  let counted := s.setOdometry
    { s.odometry with
      phaseFaults := bump8 s.odometry.phaseFaults, phaseFaultTotal := bump16 s.odometry.phaseFaultTotal }
  if reaches s.odometry.phaseFaults s.params.phaseFaultLimit then counted.raise .odometry none 2 else counted

/-- The sampled pair becomes the phase state. -/
def State.setPhase (s : State) (pair : Bool × Bool) : State :=
  s.setOdometry { s.odometry with phase := some pair }

/-- A sample of the tach phases (R45 to R48). -/
def State.sampleTach (s : State) (pair : Bool × Bool) : State :=
  match s.odometry.phase with
  | none => s.setPhase pair
  | some old =>
    if pair = old then s
    else if pair = tachForward old then (s.setPhase pair).count (!s.effectiveSense)
    else if pair = tachBackward old then (s.setPhase pair).count s.effectiveSense
    else (s.setPhase pair).phaseFault

/-- TACH_TRANSITION (R45). -/
def execTachTransition (levelA levelB : Bool) (s : State) : Host.Outcome State Fault Refusal :=
  event (fun s => s.sampleTach (levelA, levelB)) s

/-! ## POSITION telegrams -/

/-- A POSITION whose fields are in range, with its direction (R50). -/
def positionDirection (b : PositionBody) : Option Direction :=
  if b.distance.toNat ≤ Config.maxDistance ∧ b.speed.toNat ≤ Config.maxSpeed then directionOf b.direction else none

/-- The fix flag (TABLE 10-III). -/
def isFix (b : PositionBody) : Bool := b.flags.getLsbD 0

/-- One 16-bit sequence number is newer than another (0.5.8). -/
def newer (a b : Half) : Bool := decide (1 ≤ (a - b).toNat ∧ (a - b).toNat ≤ 32767)

/-- The liveness restart of an acceptance (R131). -/
def State.restartLiveness (s : State) : State :=
  s.setSupervision { s.supervision with stage := .fresh, timer := some (micros s.params.watchInterval) }

/-- The changes that every acceptance makes (R52). -/
def State.acceptPosition (s : State) (b : PositionBody) (d : Direction) : State :=
  (s.setOdometry
    { s.odometry with
      lastSequence := some b.sequence, speed := b.speed.toNat, direction := d, phaseFaults := 0 }).restartLiveness

/-- The position is set to q and the discrepancy count cleared (R54 to R56). -/
def State.setPosition (s : State) (q : Int) : State :=
  s.setOdometry { s.odometry with pNode := q, fraction := 0, aligned := true, discrepancies := 0 }

/-- The activation of a staged wheel factor by a fix (R58). -/
def State.activateFactor (s : State) : State :=
  match s.odometry.stagedFactor with
  | none => s
  | some f =>
    (s.setParams { s.params with wheelFactor := f, wheelFactorValid := true }).setOdometry
      { s.odometry with stagedFactor := none }

/-- A discrepancy (R57). -/
def State.discrepancy (s : State) : State :=
  let counted := s.setOdometry { s.odometry with discrepancies := bump8 s.odometry.discrepancies }
  if reaches s.odometry.discrepancies s.params.discrepancyLimit then counted.raise .odometry none 1 else counted

/-- The position update of an acceptance with CAR_OFFSET valid (R54 to R58, TABLE 3-III). A fix jump outside signed 32
bits, for which R56 gives no width, is held exactly (DESIGN CHOICE, log entry 28). -/
def State.updatePosition (s : State) (q : Int) (fix : Bool) : State :=
  let diff := q - s.odometry.pNode
  if !s.odometry.aligned || decide (diff.natAbs ≤ s.params.snapLimit) then
    if fix then (s.setPosition q).activateFactor else s.setPosition q
  else if fix then
    ((s.setPosition q).setOdometry { (s.setPosition q).odometry with lastFixJump := some diff }).activateFactor
  else s.discrepancy

/-- An accepted POSITION telegram (R52, R53). -/
def State.applyPosition (s : State) (b : PositionBody) (d : Direction) : State :=
  let accepted := s.acceptPosition b d
  if s.params.carOffsetValid then
    accepted.updatePosition ((b.distance.toNat : Int) - s.params.carOffset) (isFix b)
  else accepted

/-- Whether the sequence test accepts a telegram (R51). -/
def State.acceptsSequence (s : State) (q : Half) : Bool :=
  match s.odometry.lastSequence with
  | none => true
  | some last => newer q last

/-- A delivered POSITION telegram (R50, R51): malformed it changes nothing, stale it is counted, else it is accepted. -/
def State.takePosition (b : PositionBody) (s : State) : State :=
  match positionDirection b with
  | none => s
  | some d =>
    if s.acceptsSequence b.sequence then s.applyPosition b d
    else s.setOdometry { s.odometry with stalePositions := bump16 s.odometry.stalePositions }

/-- Loss of alignment: the aligned flag and the discrepancy count are cleared (R59). -/
def State.loseAlignment (s : State) : State :=
  s.setOdometry { s.odometry with aligned := false, discrepancies := 0 }

end Sys2Proof.Machine
end

