-- ==== Sys2Proof/Machine/Window.lean ====
section
/-! DEFINITION. The Route Window: admission, withdrawal, retirement, coverage and evaluation (chapter 1), with the band
lookup of the Schedule Tables that evaluation reads (R28, R40). -/

namespace Sys2Proof.Machine

/-! ## Profiles and records -/

/-- A well-formed profile (R1). -/
def Profile.wf (p : Profile) : Bool :=
  (decide (p.cls = 0) && decide (p.hand = .none) && decide (p.cant = 0)) ||
  (decide (1 ≤ p.cls) && decide (p.cls ≤ 31) && decide (p.hand ≠ .none) && decide (p.cant ≤ 100))

/-- The signed cant of a profile (R1). -/
def Profile.signedCant (p : Profile) : Int := p.hand.sign * p.cant

/-- The end of a segment (R2). -/
def Segment.stop (g : Segment) : Nat := g.start + g.length

/-- The exit profile of a segment; a CONSTANT segment's is its entry profile (R2). -/
def Segment.exit (g : Segment) : Profile :=
  match g.kind with
  | .constant => g.entry
  | .spiral e => e

/-- The fields of a record are in the ranges of TABLE 1-I and its profiles are well-formed (R9). -/
def Segment.wf (g : Segment) : Bool :=
  decide (g.id ≤ 65535) && decide (g.start ≤ Config.maxDistance) && decide (1 ≤ g.length) &&
  decide (g.length ≤ 65535) && g.entry.wf && g.exit.wf &&
  g.tiltLimit.all (fun l => decide (l ≤ 100)) && g.rateLimit.all (fun l => decide (5 ≤ l ∧ l ≤ 100))

/-- A profile from its three bytes, when the hand is coded. -/
def readProfile (cls hand cant : Byte) : Option Profile :=
  (handOf hand).map (fun h => { cls := cls.toNat, hand := h, cant := cant.toNat })

/-- The kind of a segment telegram: 0 CONSTANT, whose exit bytes are spare, and 1 SPIRAL (TABLE 10-IV). -/
def readKind (b : SegmentBody) : Option SegmentKind :=
  match b.kind.toNat with
  | 0 => some .constant
  | 1 => (readProfile b.exitClass b.exitHand b.exitCant).map .spiral
  | _ => none

/-- The record a SEGMENT telegram carries, when its coded fields hold defined codes; spare fields do not enter it. -/
def segmentRecord (b : SegmentBody) : Option Segment :=
  match readKind b, readProfile b.entryClass b.entryHand b.entryCant with
  | some kind, some entry => some {
      id := b.id.toNat
      start := b.start.toNat
      length := b.length.toNat
      kind := kind
      entry := entry
      tiltLimit := if b.flags.getLsbD 0 then some b.tiltLimit.toNat else none
      rateLimit := if b.flags.getLsbD 1 then some b.rateLimit.toNat else none
      inhibit := b.flags.getLsbD 2 }
  | _, _ => none

/-! ## Admission (TABLE 1-III) -/

/-- The outcome of admission. -/
inductive Admission where
  | repeated
  | refused (r : RefusalReason)
  | appended (g : Segment)
  deriving DecidableEq, Repr

/-- The checks against the tail and the depth, for a well-formed record that is no repeat (R10, R11). -/
def RouteWindow.checkTail (w : RouteWindow) (g : Segment) : Admission :=
  match w.segments.getLast? with
  | none => .appended g
  | some tail =>
    if g.id ≤ tail.id then .refused .order
    else if g.start ≠ tail.stop then .refused .gap
    else if g.entry ≠ tail.exit then .refused .mismatch
    else if Config.windowCapacity ≤ w.segments.length then .refused .full
    else .appended g

/-- Admission, in the order of TABLE 1-III (R8 to R11). -/
def RouteWindow.judge (w : RouteWindow) (b : SegmentBody) : Admission :=
  match segmentRecord b with
  | none => .refused .malformed
  | some g =>
    if w.segments.getLast? = some g then .repeated
    else if g.wf then w.checkTail g
    else .refused .malformed

/-- A refusal (R12). -/
def State.refuseSegment (s : State) (r : RefusalReason) (id : Nat) : State :=
  let refused := s.setWindow
    { s.window with
      refusals := bump16 s.window.refusals, lastRefusal := some { reason := r, id := id }, reported := true }
  if s.window.reported then refused else refused.raise .window none r.code

/-- A segment appended at the tail (R11). -/
def State.appendSegment (s : State) (g : Segment) : State :=
  s.setWindow { s.window with segments := s.window.segments ++ [g], reported := false }

/-- A delivered SEGMENT telegram (R8). -/
def State.takeSegment (b : SegmentBody) (s : State) : State :=
  match s.window.judge b with
  | .repeated => s
  | .refused r => s.refuseSegment r b.id.toNat
  | .appended g => s.appendSegment g

/-! ## Withdrawal (TABLE 1-IV) -/

/-- The segments that stay and the granularity performed (R15). -/
def withdrawal (segments : List Segment) (requested : Granularity) (id : Nat) : List Segment × Granularity :=
  match requested with
  | .none => (segments, .none)
  | .all => ([], .all)
  | .from =>
    if segments.all (fun g => decide (g.id < id)) then (segments, .none)
    else if segments.all (fun g => decide (id ≤ g.id)) then ([], .all)
    else (segments.filter (fun g => decide (g.id < id)), .from)
  | .one =>
    if segments.getLast?.any (fun g => decide (g.id = id)) then (segments.dropLast, .one)
    else if segments.any (fun g => decide (g.id = id)) then
      (segments.takeWhile (fun g => decide (g.id ≠ id)), .from)
    else (segments, .none)

/-- The id that a withdrawal record carries: absent for ALL (R16). -/
def withdrawalId (requested : Granularity) (id : Nat) : Option Nat :=
  match requested with
  | .all => none
  | _ => some id

/-- A withdrawal and its record (R15, R16). -/
def RouteWindow.withdraw (w : RouteWindow) (requested : Granularity) (id : Nat) : RouteWindow :=
  let kept := withdrawal w.segments requested id
  { w with
    segments := kept.1
    lastWithdrawal := some
      { requested := requested
        id := withdrawalId requested id
        performed := kept.2
        removed := w.segments.length - kept.1.length } }

/-- A delivered WITHDRAW telegram; a granularity of no defined code is not acted on (R14). -/
def State.takeWithdraw (granularity : Byte) (id : Half) (s : State) : State :=
  match granularityOf granularity with
  | none => s
  | some g => s.setWindow (s.window.withdraw g id.toNat)

/-! ## Positions of the car (R17) -/

/-- The bogie offset parameter of a channel, when valid. -/
def Params.bogieOffset (p : Params) : Channel → Option Int
  | .CH1 => if p.bogieOffset1Valid then some p.bogieOffset1 else none
  | .CH2 => if p.bogieOffset2Valid then some p.bogieOffset2 else none

/-- The position of a channel's bogie: p_node plus the effective offset, or none when the parameter is not valid. -/
def State.channelPosition (s : State) (c : Channel) : Option Int :=
  (s.params.bogieOffset c).map (fun o => s.odometry.pNode + s.turn o)

/-- The lesser of a position and one that may be absent. -/
def leastOf (x : Int) : Option Int → Int
  | none => x
  | some y => min x y

/-- The rear reference R. -/
def State.rearReference (s : State) : Int :=
  leastOf (leastOf s.odometry.pNode (s.channelPosition .CH1)) (s.channelPosition .CH2)

/-! ## Retirement (R18) -/

/-- The segments left when those that end at or before R are removed from the head. -/
def retained (r : Int) (segments : List Segment) : List Segment :=
  segments.dropWhile (fun g => decide ((g.stop : Int) ≤ r))

/-- Retirement at an expiry, taken when the node is aligned. -/
def State.retire (s : State) : State :=
  if s.odometry.aligned then
    s.setWindow { s.window with segments := retained s.rearReference s.window.segments }
  else s

/-! ## Coverage and evaluation (R20 to R24) -/

/-- A segment covers a point. -/
def Segment.covers (g : Segment) (x : Int) : Bool := decide ((g.start : Int) ≤ x) && decide (x < (g.stop : Int))

/-- The segment that covers a point. -/
def RouteWindow.at (w : RouteWindow) (x : Int) : Option Segment := w.segments.find? (fun g => g.covers x)

/-- A point is covered. -/
def RouteWindow.covered (w : RouteWindow) (x : Int) : Bool := (w.at x).isSome

/-- A bank by its name. -/
def Tables.bank (t : Tables) : BankName → Bank
  | .A => t.bankA
  | .B => t.bankB

/-- The active bank. -/
def Tables.activeBank (t : Tables) : Bank := t.bank t.active

/-- The inactive bank. -/
def Tables.inactiveBank (t : Tables) : Bank := t.bank t.active.other

/-- A row of a bank's target table. -/
def Bank.row (b : Bank) (cls : Nat) : List Nat := b.rows.getD cls []

/-- An entry of a bank's target table. -/
def Bank.entry (b : Bank) (cls band : Nat) : Nat := (b.row cls).getD band 0

/-- The speed band of a bank for a speed: the number of its thresholds at or below the speed (R28). -/
def Bank.band (b : Bank) (speed : Nat) : Nat := b.thresholds.countP (fun t => decide (t ≤ speed))

/-- The signed target of a profile at a band (R1). -/
def Profile.signedTarget (p : Profile) (b : Bank) (band : Nat) : Int := p.hand.sign * (b.entry p.cls band)

/-- The linear variation along a segment: exact product, quotient truncated toward zero (R21, R22). -/
def interpolate (a b offset length : Int) : Int := a + ((b - a) * offset).tdiv length

/-- The target of a segment at a point it covers (R21). -/
def Segment.target (g : Segment) (b : Bank) (band : Nat) (x : Int) : Int :=
  match g.kind with
  | .constant => g.entry.signedTarget b band
  | .spiral e => interpolate (g.entry.signedTarget b band) (e.signedTarget b band) (x - g.start) g.length

/-- The cant of a segment at a point it covers (R22). -/
def Segment.cantAt (g : Segment) (x : Int) : Int :=
  match g.kind with
  | .constant => g.entry.signedCant
  | .spiral e => interpolate g.entry.signedCant e.signedCant (x - g.start) g.length

/-- The cap at a point of a segment (R23). -/
def State.cap (s : State) (g : Segment) : Int :=
  let k1 := leastOf s.params.authority (g.tiltLimit.map (fun l => (l : Int)))
  let k2 := if g.inhibit then min k1 0 else k1
  if s.supervision.stage = .stale then min k2 s.params.staleLimit else k2

end Sys2Proof.Machine
end

