-- ==== Sys2Proof/Machine/Demand.lean ====
section
/-! DEFINITION. The Demand Generator: look points, runout, raw demands, the rate limiter, and the control period expiry
with the swap completion, the retirement and the start of the exchanges (chapter 4, R38, R89, R90). -/

namespace Sys2Proof.Machine

/-! ## Look points -/

/-- The lookahead distance d (R68). -/
def State.lookahead (s : State) : Int :=
  match s.odometry.direction with
  | .backward => 0
  | .forward => ((s.odometry.speed : Int) * s.params.leadTime).tdiv 10000

/-- L_c (R69). -/
def State.nodeLookPoint (s : State) : Int := s.odometry.pNode + s.lookahead

/-- L_1 and L_2 (R69); none while the bogie offset is not valid. -/
def State.lookPoint (s : State) (c : Channel) : Option Int := (s.channelPosition c).map (· + s.lookahead)

/-- All three look points are covered (R70, R71). -/
def State.routeCovered (s : State) : Bool :=
  s.window.covered s.nodeLookPoint && (s.lookPoint .CH1).any s.window.covered &&
    (s.lookPoint .CH2).any s.window.covered

/-! ## The raw demand -/

/-- A value clipped to the range from -k to k (0.5.7). -/
def clip (k x : Int) : Int := max (-k) (min k x)

/-- The raw demand of a channel, from the segments that cover L_c and L_n (R75, R76). -/
def State.rawDemand (s : State) (gc gn : Segment) (xn : Int) : Int :=
  let bank := s.tables.activeBank
  let xc := s.nodeLookPoint
  clip (s.cap gc) (gc.target bank (bank.band s.odometry.speed) xc + gc.cantAt xc - gn.cantAt xn)

/-! ## The rate limiter -/

/-- The step of a rate at the period held: truncated, and 1 at least (R78, R80). -/
def State.stepOf (s : State) (rate : Int) : Int := max 1 ((rate * s.params.period).tdiv 1000)

/-- The tracking step with L_c in a segment (R78). -/
def State.trackingStep (s : State) (gc : Segment) : Int :=
  s.stepOf (leastOf s.params.rollRate (gc.rateLimit.map (fun l => (l : Int))))

/-- The returning step (R80). -/
def State.returningStep (s : State) : Int := s.stepOf s.params.returnRate

/-- From a last demand toward a goal by one step at most (R79, R80). -/
def towards (last goal step : Int) : Int :=
  if (goal - last).natAbs ≤ step then goal
  else if last < goal then last + step
  else last - step

/-- The tracking demand of a channel (R79). It is asked for only when the look points are covered; otherwise there is no
raw demand and the last demand stands. -/
def State.trackingDemand (s : State) (c : Channel) : Int :=
  match s.window.at s.nodeLookPoint, s.lookPoint c with
  | some gc, some xn =>
    match s.window.at xn with
    | some gn => towards (s.lastDemand c) (s.rawDemand gc gn xn) (s.trackingStep gc)
    | none => s.lastDemand c
  | _, _ => s.lastDemand c

/-- The returning demand of a channel (R80). -/
def State.returningDemand (s : State) (c : Channel) : Int := towards (s.lastDemand c) 0 s.returningStep

/-! ## The steps of an expiry -/

/-- The next period starts with the PERIOD held (R65). -/
def State.startPeriod (s : State) : State :=
  s.setGenerator { s.generator with timer := micros s.params.period, period := s.params.period.toNat }

/-- A pending swap completes (R38). -/
def State.completeSwap (s : State) : State :=
  if s.tables.swapPending then s.setTables { s.tables with active := s.tables.active.other, swapPending := false }
  else s

/-- Replaces both last demands. -/
def State.setDemands (s : State) (d1 d2 : Int) : State :=
  s.setGenerator { s.generator with last1 := d1, last2 := d2 }

/-- Moves both channels to a state and sets the runout cause. -/
def State.setPair (s : State) (x : ChannelState) (runout : Bool) : State :=
  (s.setTilt { s.tilt with ch1 := { s.tilt.ch1 with state := x }, ch2 := { s.tilt.ch2 with state := x } }).setGenerator
    { s.generator with runout := runout }

/-- The pair takes its tracking demands, leaving a runout if it was in one (R71, R73, R79). -/
def State.trackPair (s : State) : State :=
  (s.setPair .tracking false).setDemands (s.trackingDemand .CH1) (s.trackingDemand .CH2)

/-- The pair takes its returning demands for runout (R71, R72, R80). -/
def State.returnPair (s : State) : State :=
  (s.setPair .returning true).setDemands (s.returningDemand .CH1) (s.returningDemand .CH2)

/-- The runout count is incremented (R25). -/
def State.countRunout (s : State) : State := s.setWindow { s.window with runouts := bump16 s.window.runouts }

/-- The demand of a channel that takes part in no runout decision (TABLE 4-II): the returning demand in RETURNING, 0 in
LOCKED, UNLOCKING, LOCKING and FAILED. TABLE 4-II has no row for a TRACKING channel outside an ACTIVE pair, which R96
excludes: its last demand stands (log entry 15). -/
def State.restDemand (s : State) (c : Channel) : Int :=
  match (s.channel c).state with
  | .returning => s.returningDemand c
  | .tracking => s.lastDemand c
  | .locked | .unlocking | .locking | .failed => 0

/-- Both channels are TRACKING in an ACTIVE node (R71). -/
def State.pairTracking (s : State) : Bool := decide (s.node.state = .active) && s.bothIn .tracking

/-- Both channels are RETURNING for runout in an ACTIVE node (R72, R73). -/
def State.pairInRunout (s : State) : Bool :=
  decide (s.node.state = .active) && s.bothIn .returning && s.generator.runout

/-- The demands of an expiry (TABLE 4-II). -/
def State.formDemands (s : State) : State :=
  if s.pairTracking then
    if s.routeCovered then s.trackPair else s.returnPair.countRunout
  else if s.pairInRunout then
    if s.routeCovered then s.trackPair else s.returnPair
  else s.setDemands (s.restDemand .CH1) (s.restDemand .CH2)

/-- The lock request of a channel state (TABLE 5-IV). -/
def ChannelState.lockRequest : ChannelState → LockRequest
  | .locked | .locking | .failed => .engage
  | .unlocking | .tracking | .returning => .release

/-- The DEMAND frame of a channel (R82, R90). -/
def State.demandFrame (s : State) (c : Channel) : DemandFrame where
  drive := c
  sequence := (s.channel c).sequence
  demand := s.turn (s.lastDemand c)
  lock := (s.channel c).state.lockRequest

/-- An exchange begins in SENDING (R89). -/
def Tilt.startExchange (t : Tilt) (f : DemandFrame) : Tilt :=
  { t with phase := .sending f Config.demandTime, window := none }

/-- Drive 1's exchange begins and drive 2's frame is fixed (R89, R90). A link that is not IDLE, which R89 excludes, starts
again (log entry 14). -/
def State.startExchanges (s : State) : State :=
  s.setTilt { s.tilt.startExchange (s.demandFrame .CH1) with waiting := some (s.demandFrame .CH2) }

/-- The expiry of the control period (R66). -/
def State.expirePeriod (s : State) : State :=
  s.startPeriod.completeSwap.retire.formDemands.startExchanges

/-- CONTROL_PERIOD_EXPIRY (R66). -/
def execControlPeriodExpiry (s : State) : Host.Outcome State Fault Refusal := event State.expirePeriod s

end Sys2Proof.Machine
end

