-- ==== Sys2Proof/Machine/Supervise.lean ====
section
/-! DEFINITION. The Supervision Unit's own events: the liveness timer (R132, R133) and the SNAPSHOT broadcast (R141,
R142). The fault list is in Machine/Flags.lean. -/

namespace Sys2Proof.Machine

/-! ## Liveness -/

/-- The expiry of the liveness timer in FRESH (R132). -/
def State.becomeStale (s : State) : State :=
  s.setSupervision { s.supervision with stage := .stale, timer := some (micros s.params.watchInterval) }

/-- The expiry of the liveness timer in STALE (R133). -/
def State.becomeLost (s : State) : State :=
  let lost := s.setSupervision { s.supervision with stage := .lost, timer := none }
  match s.node.state with
  | .active | .winddown => lost.raise .liveness none 0
  | .standby | .safe | .offline => lost

/-- The expiry of the liveness timer, by the stage. -/
def State.expireLiveness (s : State) : State :=
  match s.supervision.stage with
  | .fresh => s.becomeStale
  | .stale => s.becomeLost
  | .lost => s

/-- LIVENESS_TIMER_EXPIRY (R132). A stopped timer, and so the stage LOST, has no expiry (R133, log entry 4). -/
def execLivenessTimerExpiry (s : State) : Host.Outcome State Fault Refusal :=
  event (fun s => if s.supervision.timer.isSome then s.expireLiveness else s) s

/-! ## The snapshot register -/

/-- The four reported items of a channel (R109, TABLE 7-III). -/
def State.channelView (s : State) (c : Channel) : ChannelView where
  state := (s.channel c).state
  lastDemand := s.lastDemand c
  feedback := (s.channel c).feedback.map (fun f => (f.measured, f.lock))

/-- The contents that a broadcast latches (TABLE 7-III). -/
def State.takenSnapshot (s : State) (tag : Half) : Snapshot where
  tag := tag
  node := s.node.state
  stage := s.supervision.stage
  aligned := s.odometry.aligned
  pNode := s.odometry.pNode
  speed := s.odometry.speed
  ch1 := s.channelView .CH1
  ch2 := s.channelView .CH2
  depth := s.window.segments.length
  active := s.tables.active

/-- A delivered SNAPSHOT broadcast: it latches an EMPTY register and is otherwise ignored and counted (R141, R142). -/
def State.takeSnapshot (tag : Half) (s : State) : State :=
  match s.supervision.snapshot with
  | none => s.setSupervision { s.supervision with snapshot := some (s.takenSnapshot tag) }
  | some _ => s.setSupervision { s.supervision with ignoredSnapshots := bump16 s.supervision.ignoredSnapshots }

end Sys2Proof.Machine
end

