-- ==== Sys2Proof/Machine/Trunk.lean ====
section
/-! DEFINITION. The Trunk Unit: link training and the loss of a link (R146, R147), the transmitters and the head-bound
arbiter (R151, R153), and the arrival of a telegram with its routing (R148 to R150, TABLE 8-IV). -/

namespace Sys2Proof.Machine

/-! ## Ports and training -/

/-- SIGNAL_APPEARS (R146): a DOWN port enters TRAINING. -/
def Trunk.signalAppears (t : Trunk) (p : Port) : Trunk :=
  match (t.port p).link with
  | .down => t.setPort p { t.port p with link := .training, trainCount := 0, trainRate := none }
  | .training | .up => t

/-- SIGNAL_APPEARS. -/
def execSignalAppears (p : Port) (s : State) : Host.Outcome State Fault Refusal :=
  event (fun s => s.setTrunk (s.trunk.signalAppears p)) s

/-- One symbol in TRAINING: the count and the rate being counted (R146). -/
def trainStep (count : Nat) (rate : Option Rate) : TrainingSymbol → Nat × Option Rate
  | none => (0, none)
  | some r => if rate = some r then (count + 1, some r) else (1, some r)

/-- Symbols received in TRAINING, up to the count of 16; what follows it is idle fill (R146). -/
def trainOn (count : Nat) (rate : Option Rate) : List TrainingSymbol → Nat × Option Rate
  | [] => (count, rate)
  | x :: xs =>
    if Config.trainingLength ≤ count then (count, rate)
    else trainOn (trainStep count rate x).1 (trainStep count rate x).2 xs

/-- A port after symbols received in TRAINING: UP at the rate counted when the count is 16 (R146). -/
def PortState.train (x : PortState) (symbols : List TrainingSymbol) : PortState :=
  let r := trainOn x.trainCount x.trainRate symbols
  if Config.trainingLength ≤ r.1 then { x with link := .up, rate := r.2, trainCount := r.1, trainRate := r.2 }
  else { x with trainCount := r.1, trainRate := r.2 }

/-- PORT_UP (R146). -/
def Trunk.train (t : Trunk) (p : Port) (symbols : List TrainingSymbol) : Trunk :=
  match (t.port p).link with
  | .training => t.setPort p ((t.port p).train symbols)
  | .down | .up => t

/-- PORT_UP. -/
def execPortUp (p : Port) (symbols : List TrainingSymbol) (s : State) : Host.Outcome State Fault Refusal :=
  event (fun s => s.setTrunk (s.trunk.train p symbols)) s

/-! ## Entry to DOWN -/

/-- A port that has entered DOWN: no rate, no training count, nothing received and nothing transmitted (R146, R147). -/
def PortState.wentDown (_x : PortState) : PortState := PortState.initial

/-- The telegram arriving on a port that leaves UP is discarded with an RX error (R147). -/
def Trunk.dropArriving (t : Trunk) (p : Port) : Trunk :=
  if (t.port p).receiving.isSome then t.countRxError p else t

/-- The telegram being transmitted on a port that leaves UP is abandoned, a drop of its queue (R147). -/
def Trunk.dropTransmitted (t : Trunk) (p : Port) : Trunk :=
  match (t.port p).sending with
  | some (_, .transit) => t.countDrops 1 p
  | some (_, .own) => t.countOwnDrops 1
  | none => t

/-- The transit queue that feeds a port that leaves UP is discarded (R147). -/
def Trunk.dropTransit (t : Trunk) (p : Port) : Trunk := (t.countDrops (t.queue p).length p).setQueue p []

/-- The own queue is discarded when the port that leaves UP is the head port (R147). -/
def Trunk.dropOwn (t : Trunk) (p : Port) : Trunk := if t.headPort = some p then t.discardOwn else t

/-- A port leaves UP for DOWN (R147). The arbiter count becomes 0, whichever port it is (DEDUCED, log entry 10). -/
def Trunk.leaveUp (t : Trunk) (p : Port) : Trunk :=
  let dropped := (((t.dropArriving p).dropTransmitted p).dropTransit p).dropOwn p
  { dropped with arbiter := 0 }

/-- A TRAINING or UP port enters DOWN (R146, R147). -/
def Trunk.goDown (t : Trunk) (p : Port) : Trunk :=
  match (t.port p).link with
  | .up => (t.leaveUp p).setPort p (t.port p).wentDown
  | .training => t.setPort p (t.port p).wentDown
  | .down => t

/-- LOSS_OF_SIGNAL (R146). -/
def execLossOfSignal (p : Port) (s : State) : Host.Outcome State Fault Refusal :=
  event (fun s => s.setTrunk (s.trunk.goDown p)) s

/-- SYMBOL_ERROR_LIMIT (R146). -/
def execSymbolErrorLimit (p : Port) (s : State) : Host.Outcome State Fault Refusal :=
  event (fun s => s.setTrunk (s.trunk.goDown p)) s

/-- A start delimiter on an UP port begins a telegram being received (R148). -/
def Trunk.startReceiving (t : Trunk) (p : Port) : Trunk :=
  if t.isUp p then t.setPort p { t.port p with receiving := some [] } else t

/-- START_DELIMITER_RECEIVED (R148). -/
def execStartDelimiterReceived (p : Port) (s : State) : Host.Outcome State Fault Refusal :=
  event (fun s => s.setTrunk (s.trunk.startReceiving p)) s

/-! ## Transmitters -/

/-- A transmission begins. -/
def Trunk.transmit (t : Trunk) (p : Port) (x : Telegram) (q : QueueSource) : Trunk :=
  t.setPort p { t.port p with sending := some (x, q) }

/-- A transmitter may begin: its port is UP and it sends nothing. -/
def Trunk.free (t : Trunk) (p : Port) : Bool := t.isUp p && (t.port p).sending.isNone

/-- The oldest telegram of the transit queue is sent (R151). -/
def Trunk.sendTransit (t : Trunk) (p : Port) : Trunk :=
  match t.queue p with
  | [] => t
  | x :: rest => (t.setQueue p rest).transmit p x .transit

/-- The oldest telegram of the own queue is sent (R152). -/
def Trunk.sendOwn (t : Trunk) (p : Port) : Trunk :=
  match t.own with
  | [] => t
  | x :: rest => ({ t with own := rest }).transmit p x .own

/-- The choice of the arbiter for the head port (R153). -/
def Trunk.arbitrate (t : Trunk) (h : Port) : Trunk :=
  if t.own.isEmpty then { t.sendTransit h with arbiter := 0 }
  else if (t.queue h).isEmpty then { t.sendOwn h with arbiter := 0 }
  else if t.arbiter < Config.arbiterLimit then { t.sendTransit h with arbiter := t.arbiter + 1 }
  else { t.sendOwn h with arbiter := 0 }

/-- ARBITER_CHOICE (R153): taken when the head port's transmitter is free and UP and a telegram waits. -/
def Trunk.arbiterChoice (t : Trunk) : Trunk :=
  match t.headPort with
  | none => t
  | some h => if t.free h ∧ ¬(t.own.isEmpty ∧ (t.queue h).isEmpty) then t.arbitrate h else t

/-- ARBITER_CHOICE. -/
def execArbiterChoice (s : State) : Host.Outcome State Fault Refusal :=
  event (fun s => s.setTrunk s.trunk.arbiterChoice) s

/-- TRANSIT_TRANSMIT_START (R153): for a port that is not the head port. -/
def Trunk.transitStart (t : Trunk) (p : Port) : Trunk :=
  if t.headPort ≠ some p ∧ t.free p then t.sendTransit p else t

/-- TRANSIT_TRANSMIT_START. -/
def execTransitTransmitStart (p : Port) (s : State) : Host.Outcome State Fault Refusal :=
  event (fun s => s.setTrunk (s.trunk.transitStart p)) s

/-- The transmitter of a port becomes free (R151, R153). -/
def Trunk.endTransmission (t : Trunk) (p : Port) : Trunk := t.setPort p { t.port p with sending := none }

/-- TRANSMISSION_END (R151). -/
def execTransmissionEnd (p : Port) (s : State) : Host.Outcome State Fault Refusal :=
  event (fun s => s.setTrunk (s.trunk.endTransmission p)) s

/-! ## Routing (TABLE 8-IV) -/

/-- What the node does with a good telegram. -/
inductive Route where
  /-- Acted on and forwarded. -/
  | act
  /-- Acted on and not forwarded. -/
  | deliver
  | forward
  /-- Answered UNKNOWN_KIND. -/
  | unknownKind
  | wrongSide
  deriving DecidableEq, Repr

/-- A telegram of kind ENUMERATE with destination 0 (R149). -/
def isEnumerate (x : Telegram) : Bool := decide (x.kind = kindEnumerate) && decide (x.dest = 0)

/-- A telegram is addressed to this node. -/
def Trunk.isOwnAddress (t : Trunk) (dest : Byte) : Bool := decide (t.address = some dest.toNat)

/-- The rows of TABLE 8-IV for the head port. -/
def Trunk.routeFromHead (t : Trunk) (x : Telegram) : Route :=
  if x.dest = 0 then (if isBroadcastKind x.kind then .act else .forward)
  else if t.isOwnAddress x.dest then (if isManagementKind x.kind then .deliver else .unknownKind)
  else if x.dest = supervisorAddress then .wrongSide
  else .forward

/-- The rows of TABLE 8-IV for the non-head port. -/
def routeFromTail (x : Telegram) : Route :=
  if x.dest = supervisorAddress then .forward
  else if isEnumerate x then .act
  else .wrongSide

/-- TABLE 8-IV. -/
def Trunk.route (t : Trunk) (p : Port) (x : Telegram) : Route :=
  match t.headPort with
  | none => if isEnumerate x then .act else .forward
  | some h => if p = h then t.routeFromHead x else routeFromTail x

/-! ## ENUMERATE as it is forwarded (TABLE 8-V) -/

/-- The next-address forwarded. -/
def nextAddress (n : NodeState) (next : Byte) : Byte :=
  if next = 0 then 0
  else
    match n with
    | .offline | .standby => if next.toNat ≤ 16 then next + 1 else next
    | .active | .winddown | .safe => if next = 255 then 255 else next + 1

/-- The telegram as it is sent on: an ENUMERATE with the next-address of TABLE 8-V, any other unchanged (R149, R151). -/
def forwardedForm (n : NodeState) (x : Telegram) : Telegram :=
  if isEnumerate x then { x with payload := x.payload.map (nextAddress n) } else x

/-! ## Arrival -/

/-- The telegram being received on a port has been taken, at the end of its CRC. -/
def Trunk.endReceiving (t : Trunk) (p : Port) : Trunk := t.setPort p { t.port p with receiving := none }

/-- A telegram that fails a reception check is discarded with an RX error (R148). -/
def State.rejectReceived (s : State) (p : Port) : State := s.setTrunk ((s.trunk.endReceiving p).countRxError p)

/-- A good telegram offered to the transit queue of the port opposite its arrival port (R149). -/
def State.forwardFrom (s : State) (p : Port) (x : Telegram) : State := s.setTrunk (s.trunk.offer p.other x)

/-- A good telegram routed by TABLE 8-IV; `act` is what the block that owns its kind does with it. -/
def State.routeGood (s : State) (p : Port) (x : Telegram) (act : State → State) : State :=
  match s.trunk.route p x with
  | .act => (act s).forwardFrom p (forwardedForm s.node.state x)
  | .deliver => act s
  | .forward => s.forwardFrom p x
  | .unknownKind => s.ack x.kind x.tag resultUnknownKind none
  | .wrongSide => s.setTrunk (s.trunk.countWrongSide p)

/-- A telegram arrives whole on a port: only an UP port takes one (R148), the LENGTH check applies, and a good telegram
is routed. -/
def State.arrive (s : State) (p : Port) (x : Telegram) (act : State → State) : State :=
  if s.trunk.isUp p then
    if x.lengthOk then (s.setTrunk (s.trunk.endReceiving p)).routeGood p x act
    else s.rejectReceived p
  else s

end Sys2Proof.Machine
end

