-- ==== Sys2Proof/Machine/Broadcasts.lean ====
section
/-! DEFINITION. The broadcasts POSITION, SEGMENT, WITHDRAW, SNAPSHOT and ENUMERATE: each arrives, is routed by TABLE 8-IV
and is acted on by its block. ENUMERATE is R154 to R158. -/

namespace Sys2Proof.Machine

/-! ## ENUMERATE -/

/-- CAR_OFFSET becomes invalid and the node is no longer aligned (R59, R155). -/
def State.invalidateOffset (s : State) : State :=
  (s.setParams { s.params with carOffsetValid := false }).loseAlignment

/-- The three further changes of a change of head port (R156). -/
def State.changeHead (s : State) : State :=
  (s.setTrunk s.trunk.discardOwn).setWindow (s.window.withdraw .all 0)

/-- The node takes an address and a head port (R155, R156). -/
def State.renumber (s : State) (p : Port) (n : Nat) : State :=
  let headChanges := s.trunk.headPort ≠ some p
  let s1 := if headChanges then s.changeHead else s
  let s2 := if headChanges ∨ s.trunk.address ≠ some n then s1.invalidateOffset else s1
  (s2.setTrunk { s2.trunk with headPort := some p, address := some n }).setNodeState .standby

/-- The address and head port are cleared and the node goes OFFLINE (R157). -/
def State.unnumber (s : State) : State :=
  let held := s.trunk.headPort.isSome ∨ s.trunk.address.isSome
  let s1 := if held then s.invalidateOffset else s
  (s1.setTrunk { s1.trunk.discardOwn with headPort := none, address := none }).setNodeState .offline

/-- An ENUMERATE beyond the sixteenth address (R157). A node that is already OFFLINE only raises the fault. -/
def State.beyondSixteen (s : State) : State :=
  (if s.node.state = .offline then s else s.unnumber).raise .enumeration none 1

/-- The response to an ENUMERATE (TABLE 8-V). -/
def State.takeEnumerate (p : Port) (next : Byte) (s : State) : State :=
  if next = 0 then s
  else
    match s.node.state with
    | .offline | .standby => if next.toNat ≤ 16 then s.renumber p next.toNat else s.beyondSixteen
    | .active | .winddown | .safe => s.raise .enumeration none 2

/-! ## The commands -/

/-- POSITION (R50 to R59). -/
def execPosition (a : Arrival) (b : PositionBody) (s : State) : Host.Outcome State Fault Refusal :=
  event (fun s => s.arrive a.port ((Body.position b).telegram a) (State.takePosition b)) s

/-- SEGMENT (R7 to R12). -/
def execSegment (a : Arrival) (b : SegmentBody) (s : State) : Host.Outcome State Fault Refusal :=
  event (fun s => s.arrive a.port ((Body.segment b).telegram a) (State.takeSegment b)) s

/-- WITHDRAW (R14 to R16). -/
def execWithdraw (a : Arrival) (granularity : Byte) (id : Half) (s : State) : Host.Outcome State Fault Refusal :=
  event (fun s => s.arrive a.port ((Body.withdraw granularity id).telegram a) (State.takeWithdraw granularity id)) s

/-- SNAPSHOT (R141, R142). -/
def execSnapshot (a : Arrival) (s : State) : Host.Outcome State Fault Refusal :=
  event (fun s => s.arrive a.port (Body.snapshot.telegram a) (State.takeSnapshot a.tag)) s

/-- ENUMERATE (R154 to R158). -/
def execEnumerate (a : Arrival) (next : Byte) (s : State) : Host.Outcome State Fault Refusal :=
  event (fun s => s.arrive a.port ((Body.enumerate next).telegram a) (State.takeEnumerate a.port next)) s

end Sys2Proof.Machine
end

