-- ==== Sys2Proof/Machine/TiltLink.lean ====
section
/-! DEFINITION. The drive link and the tilt channels: the phases of an exchange, missed exchanges, good FEEDBACKs in their
five steps, and the lock and unlock timers (chapter 5, R118, R122). -/

namespace Sys2Proof.Machine

/-! ## The phases of an exchange -/

/-- The last character of a DEMAND frame is sent: the demand becomes the last sent demand, the sequence number is
incremented and the window opens (R89, R90). -/
def State.demandSent (s : State) (f : DemandFrame) : State :=
  let c := s.channel f.drive
  let recorded := s.setChannel f.drive { c with lastSent := f.demand, sequence := c.sequence + 1 }
  recorded.setTilt { recorded.tilt with phase := .listening f, window := some Config.exchangeWindow }

/-- DEMAND_SENT (R90). With no frame being sent nothing happens (log entry 4). -/
def execDemandSent (s : State) : Host.Outcome State Fault Refusal :=
  event (fun s =>
    match s.tilt.phase with
    | .sending f _ => s.demandSent f
    | _ => s) s

/-- An exchange ends: the window closes, and drive 2's exchange begins when drive 1's ends (R89). -/
def Tilt.endExchange (t : Tilt) (f : DemandFrame) : Tilt :=
  match f.drive, t.waiting with
  | .CH1, some g => { t with phase := .sending g Config.demandTime, waiting := none, window := none }
  | _, _ => { t with phase := .idle, waiting := none, window := none }

/-! ## Missed exchanges -/

/-- A missed exchange (R93). -/
def State.missExchange (s : State) (c : Channel) (d : ExchangeDefect) : State :=
  let x := s.channel c
  let late := if d = .stale then bump16 x.lateFeedbacks else x.lateFeedbacks
  let counted := s.setChannel c { x with misses := bump8 x.misses, lateFeedbacks := late }
  if reaches x.misses s.params.feedbackMissLimit then counted.raise .feedback (some c) (defectCode d) else counted

/-- EXCHANGE_WINDOW_CLOSE (R91): the exchange is missed with NO_REPLY. With no window open nothing happens. -/
def execExchangeWindowClose (s : State) : Host.Outcome State Fault Refusal :=
  event (fun s =>
    match s.tilt.phase with
    | .listening f => (s.setTilt (s.tilt.endExchange f)).missExchange f.drive .noReply
    | _ => s) s

/-! ## Good FEEDBACK (R94) -/

/-- Into the travel frame, with -32,768 negated to +32,767 (R94 step b). -/
def State.travelAngle (s : State) (x : Int) : Int := min 32767 (s.turn x)

/-- Steps (a) and (b): the miss counter is 0 and the feedback record is replaced. -/
def State.storeFeedback (s : State) (c : Channel) (angle : Int) (lock : LockState) (fault : Nat) : State :=
  s.setChannel c
    { s.channel c with misses := 0, feedback := some { measured := s.travelAngle angle, lock := lock, fault := fault } }

/-- The fault code that a feedback record holds, 0 when absent (TABLE 5-I note 2). -/
def TiltChannel.faultCode (c : TiltChannel) : Nat :=
  match c.feedback with
  | none => 0
  | some f => f.fault

/-- Step (c): a fault code that is not 0 and differs from the one held before raises a DRIVE fault (R95). -/
def State.testDriveFault (s : State) (c : Channel) (old new : Nat) : State :=
  if new ≠ 0 ∧ new ≠ old then s.raise .drive (some c) new else s

/-- The magnitude of the difference between the measured angle and the last sent demand, in the travel frame (R106). -/
def State.trackError (s : State) (c : Channel) (measured : Int) : Nat :=
  (measured - s.turn (s.channel c).lastSent).natAbs

/-- Step (d): tracking supervision in TRACKING and RETURNING (R106, R107). -/
def State.superviseTracking (s : State) (c : Channel) (measured : Int) : State :=
  let x := s.channel c
  let e := s.trackError c measured
  match x.state with
  | .tracking | .returning =>
    if (e : Int) ≤ s.params.trackBand then s.setChannel c { x with persistence := 0 }
    else
      let counted := s.setChannel c { x with persistence := bump8 x.persistence }
      if reaches x.persistence s.params.trackPersist then counted.raise .tracking (some c) (min 255 e) else counted
  | _ => s

/-- Both channels enter TRACKING and the unlock timer stops (R99). -/
def State.completeUnlock (s : State) : State :=
  (s.setTilt
    { s.tilt with
      ch1 := { s.tilt.ch1 with state := .tracking, mark := false }
      ch2 := { s.tilt.ch2 with state := .tracking, mark := false } }).setUnlockTimer none

/-- The lock state applied to a channel in UNLOCKING (R98, R99). -/
def State.applyUnlocking (s : State) (c : Channel) (lock : LockState) : State :=
  if lock = .released then
    if (s.channel c.other).state = .unlocking ∧ (s.channel c.other).mark = true then s.completeUnlock
    else s.setChannel c { s.channel c with mark := true }
  else s.setChannel c { s.channel c with mark := false }

/-- The lock state applied to a channel in RETURNING: it is centred in WINDDOWN or SAFE when the exchange carried 0 and
the measured angle is within CENTRE_BAND (R100, R101). -/
def State.applyReturning (s : State) (c : Channel) (demand measured : Int) : State :=
  if (s.node.state = .winddown ∨ s.node.state = .safe) ∧ demand = 0 ∧ (measured.natAbs : Int) ≤ s.params.centreBand then
    s.setChannel c ((s.channel c).enterLocking s.lockTime)
  else s

/-- Node Control is told that a channel has locked: WINDDOWN ends when the other is LOCKED too (R118). -/
def State.tellLocked (s : State) (c : Channel) : State :=
  if s.node.state = .winddown ∧ (s.channel c.other).state = .locked then s.setNodeState .standby else s

/-- A channel enters LOCKED and its timer stops (R102, R104). -/
def State.enterLocked (s : State) (c : Channel) : State :=
  (s.setChannel c { s.channel c with state := .locked, lockTimer := none }).tellLocked c

/-- The lock state applied to a channel in LOCKED: RELEASED raises LOCK_LOST (R105). -/
def State.applyLocked (s : State) (c : Channel) (lock : LockState) : State :=
  if lock = .released then
    (s.setChannel c ((s.channel c).enterLocking s.lockTime)).raise .lockLost (some c) 0
  else s

/-- Step (e): the lock state applied to the state that the channel then holds (R98 to R105). -/
def State.applyLockState (s : State) (c : Channel) (lock : LockState) (demand measured : Int) : State :=
  match (s.channel c).state with
  | .unlocking => s.applyUnlocking c lock
  | .tracking => s
  | .returning => s.applyReturning c demand measured
  | .locking | .failed => if lock = .engaged then s.enterLocked c else s
  | .locked => s.applyLocked c lock

/-- A good FEEDBACK, in its five steps (R94). -/
def State.goodFeedback (s : State) (f : DemandFrame) (angle : Int) (lock : LockState) (fault : Nat) : State :=
  let c := f.drive
  let stored := s.storeFeedback c angle lock fault
  let measured := s.travelAngle angle
  let tested := stored.testDriveFault c (s.channel c).faultCode fault
  let supervised := tested.superviseTracking c measured
  supervised.applyLockState c lock f.demand measured

/-- FEEDBACK_FRAME (R91, R92): a frame that ends within the window ends the exchange and is judged. With the link not
LISTENING its characters are discarded (R91). -/
def execFeedbackFrame (chars : List LineChar) (s : State) : Host.Outcome State Fault Refusal :=
  event (fun s =>
    match s.tilt.phase with
    | .listening f =>
      match judgeFrame f chars with
      | .error d => (s.setTilt (s.tilt.endExchange f)).missExchange f.drive d
      | .ok (angle, lock, fault) => (s.setTilt (s.tilt.endExchange f)).goodFeedback f angle lock fault
    | _ => s) s

/-! ## Timers -/

/-- The detail of a LOCK_TIMEOUT: the lock state of the feedback record, 0 when none is held (R103). -/
def TiltChannel.heldLock (c : TiltChannel) : Nat :=
  match c.feedback with
  | none => 0
  | some f => f.lock.code.toNat

/-- The expiry of a lock timer in LOCKING (R103). -/
def State.lockTimeout (s : State) (c : Channel) : State :=
  (s.setChannel c { s.channel c with state := .failed, lockTimer := none }).raise .lockTimeout (some c)
    (s.channel c).heldLock

/-- LOCK_TIMEOUT (R103). A lock timer that is stopped, or a channel not in LOCKING, has no expiry (log entry 4). -/
def execLockTimeout (c : Channel) (s : State) : Host.Outcome State Fault Refusal :=
  event (fun s =>
    if (s.channel c).state = .locking ∧ (s.channel c).lockTimer.isSome then s.lockTimeout c else s) s

/-- The detail of an UNLOCK_TIMEOUT: which channel alone is marked (R122). -/
def State.markDetail (s : State) : Nat :=
  if s.tilt.ch1.mark then 1 else if s.tilt.ch2.mark then 2 else 0

/-- UNLOCK_TIMEOUT (R122). A stopped unlock timer has no expiry (log entry 4). -/
def execUnlockTimeout (s : State) : Host.Outcome State Fault Refusal :=
  event (fun s =>
    if s.node.unlockTimer.isSome then (s.setUnlockTimer none).raise .unlockTimeout none s.markDetail else s) s

end Sys2Proof.Machine
end

