-- ==== Sys2Proof/Machine/Node.lean ====
section
/-! DEFINITION. Node Control: PARAM writes by TABLE 6-VII (R126 to R128) and the five commands (R113 to R121), with the
command reset (R120, 6.6.1). -/

namespace Sys2Proof.Machine

/-! ## Parameters -/

/-- The parameters of TABLE 6-VII. -/
inductive ParamId where
  | carOffset | bogieOffset1 | bogieOffset2 | tachSense | wheelFactor | leadTime | period | authority | staleLimit | rollRate | returnRate | watchInterval | snapLimit | discrepancyLimit | trackBand | trackPersist | centreBand | lockTimeout | feedbackMissLimit | phaseFaultLimit
  deriving DecidableEq, Repr

/-- The parameter of an identifier (TABLE 6-VII). -/
def paramOf (ident : Byte) : Option ParamId :=
  match ident.toNat with
  | 1 => some .carOffset
  | 2 => some .bogieOffset1
  | 3 => some .bogieOffset2
  | 4 => some .tachSense
  | 5 => some .wheelFactor
  | 6 => some .leadTime
  | 7 => some .period
  | 8 => some .authority
  | 9 => some .staleLimit
  | 10 => some .rollRate
  | 11 => some .returnRate
  | 12 => some .watchInterval
  | 13 => some .snapLimit
  | 14 => some .discrepancyLimit
  | 15 => some .trackBand
  | 16 => some .trackPersist
  | 17 => some .centreBand
  | 18 => some .lockTimeout
  | 19 => some .feedbackMissLimit
  | 20 => some .phaseFaultLimit
  | _ => none

/-- The value of a parameter. -/
def Params.get (p : Params) : ParamId → Int
  | .carOffset => p.carOffset
  | .bogieOffset1 => p.bogieOffset1
  | .bogieOffset2 => p.bogieOffset2
  | .tachSense => p.tachSense
  | .wheelFactor => p.wheelFactor
  | .leadTime => p.leadTime
  | .period => p.period
  | .authority => p.authority
  | .staleLimit => p.staleLimit
  | .rollRate => p.rollRate
  | .returnRate => p.returnRate
  | .watchInterval => p.watchInterval
  | .snapLimit => p.snapLimit
  | .discrepancyLimit => p.discrepancyLimit
  | .trackBand => p.trackBand
  | .trackPersist => p.trackPersist
  | .centreBand => p.centreBand
  | .lockTimeout => p.lockTimeout
  | .feedbackMissLimit => p.feedbackMissLimit
  | .phaseFaultLimit => p.phaseFaultLimit

/-- The valid flag of a parameter; the sixteen without one are always valid (TABLE 6-VII note 2). -/
def Params.valid (p : Params) : ParamId → Bool
  | .carOffset => p.carOffsetValid
  | .bogieOffset1 => p.bogieOffset1Valid
  | .bogieOffset2 => p.bogieOffset2Valid
  | .wheelFactor => p.wheelFactorValid
  | _ => true

/-- A parameter takes a value, and its valid flag is set where it has one (R126). -/
def Params.set (p : Params) (v : Int) : ParamId → Params
  | .carOffset => { p with carOffset := v, carOffsetValid := true }
  | .bogieOffset1 => { p with bogieOffset1 := v, bogieOffset1Valid := true }
  | .bogieOffset2 => { p with bogieOffset2 := v, bogieOffset2Valid := true }
  | .tachSense => { p with tachSense := v }
  | .wheelFactor => { p with wheelFactor := v, wheelFactorValid := true }
  | .leadTime => { p with leadTime := v }
  | .period => { p with period := v }
  | .authority => { p with authority := v }
  | .staleLimit => { p with staleLimit := v }
  | .rollRate => { p with rollRate := v }
  | .returnRate => { p with returnRate := v }
  | .watchInterval => { p with watchInterval := v }
  | .snapLimit => { p with snapLimit := v }
  | .discrepancyLimit => { p with discrepancyLimit := v }
  | .trackBand => { p with trackBand := v }
  | .trackPersist => { p with trackPersist := v }
  | .centreBand => { p with centreBand := v }
  | .lockTimeout => { p with lockTimeout := v }
  | .feedbackMissLimit => { p with feedbackMissLimit := v }
  | .phaseFaultLimit => { p with phaseFaultLimit := v }

/-- The range of a parameter (TABLE 6-VII). -/
def ParamId.range : ParamId → Int × Int
  | .carOffset => (0, 6000)
  | .bogieOffset1 => (-200, 200)
  | .bogieOffset2 => (-200, 200)
  | .tachSense => (0, 1)
  | .wheelFactor => (1, 1048575)
  | .leadTime => (0, 2500)
  | .period => (5, 50)
  | .authority => (0, 100)
  | .staleLimit => (0, 100)
  | .rollRate => (5, 100)
  | .returnRate => (5, 100)
  | .watchInterval => (50, 2000)
  | .snapLimit => (0, 1000)
  | .discrepancyLimit => (1, 15)
  | .trackBand => (5, 50)
  | .trackPersist => (1, 100)
  | .centreBand => (1, 20)
  | .lockTimeout => (100, 5000)
  | .feedbackMissLimit => (1, 10)
  | .phaseFaultLimit => (1, 255)

/-- The parameters that are writable in STANDBY only (TABLE 6-VII). -/
def ParamId.standbyOnly : ParamId → Bool
  | .carOffset | .bogieOffset1 | .bogieOffset2 | .tachSense | .period | .authority => true
  | _ => false

/-- A parameter is writable in a node state: STANDBY, or any of the four addressed states (TABLE 6-VII). -/
def ParamId.writable (i : ParamId) (n : NodeState) : Bool :=
  if i.standbyOnly then decide (n = .standby) else decide (n ≠ .offline)

/-- A value is in a parameter's range. -/
def ParamId.inRange (i : ParamId) (v : Int) : Bool := decide (i.range.1 ≤ v) && decide (v ≤ i.range.2)

/-- An accepted write (R49, R59, R126): a WHEEL_FACTOR written while valid is staged, and a CAR_OFFSET clears the
alignment. -/
def State.writeParam (s : State) (i : ParamId) (v : Int) : State :=
  match i with
  | .wheelFactor =>
    if s.params.wheelFactorValid then s.setOdometry { s.odometry with stagedFactor := some v }
    else s.setParams (s.params.set v .wheelFactor)
  | .carOffset => (s.setParams (s.params.set v .carOffset)).loseAlignment
  | other => s.setParams (s.params.set v other)

/-- A delivered PARAM write, checked in the order of R126 and answered by one ACK. -/
def State.takeParam (tag : Half) (ident : Byte) (value : Word) (s : State) : State :=
  match paramOf ident with
  | none => s.ack kindParam tag resultRange (some 1)
  | some i =>
    if !i.writable s.node.state then s.ack kindParam tag resultBadState none
    else if !i.inRange value.toInt then s.ack kindParam tag resultRange (some 2)
    else (s.writeParam i value.toInt).ack kindParam tag resultOk none

/-! ## Commands -/

/-- The ACK of a COMMAND. -/
def State.ackCommand (s : State) (tag : Half) (result : Byte) (detail : Option Nat) : State :=
  s.ack kindCommand tag result detail

/-- The PARAMS precondition (TABLE 6-V). -/
def Params.allValid (p : Params) : Bool :=
  p.carOffsetValid && p.bogieOffset1Valid && p.bogieOffset2Valid && p.wheelFactorValid

/-- A channel is fit to be enabled: LOCKED, no miss, fault code 0 (R108). -/
def TiltChannel.ready (c : TiltChannel) : Bool :=
  decide (c.state = .locked) && decide (c.misses = 0) && decide (c.faultCode = 0)

/-- The detail of the first ENABLE precondition that fails, in the order of TABLE 6-V (R114). -/
def State.enableObstacle (s : State) : Option Nat :=
  if !s.params.allValid then some 1
  else if s.tables.activeBank.state ≠ .verified then some 2
  else if !(s.odometry.aligned && decide (s.supervision.stage = .fresh)) then some 3
  else if !s.routeCovered then some 4
  else if !(s.tilt.ch1.ready && s.tilt.ch2.ready) then some 5
  else none

/-- A channel entering UNLOCKING (R97). -/
def TiltChannel.enterUnlocking (c : TiltChannel) : TiltChannel :=
  { c with state := .unlocking, mark := false, persistence := 0 }

/-- The changes of an accepted ENABLE (R115). -/
def State.activate (s : State) : State :=
  (s.setNode { s.node with state := .active, unlockTimer := some s.lockTime }).setTilt
    { s.tilt with ch1 := s.tilt.ch1.enterUnlocking, ch2 := s.tilt.ch2.enterUnlocking }

/-- A delivered ENABLE (R114 to R116). -/
def State.takeEnable (tag : Half) (s : State) : State :=
  match s.node.state with
  | .standby =>
    match s.enableObstacle with
    | some d => s.ackCommand tag resultNotReady (some d)
    | none => s.activate.ackCommand tag resultOk none
  | .winddown => s.ackCommand tag resultBusy none
  | .active | .safe | .offline => s.ackCommand tag resultBadState none

/-- A delivered DISABLE (R117). -/
def State.takeDisable (tag : Half) (s : State) : State :=
  match s.node.state with
  | .active => (s.standDown .winddown).ackCommand tag resultOk none
  | .standby | .winddown | .safe | .offline => s.ackCommand tag resultBadState none

/-- A delivered RELEASE (R119). -/
def State.takeRelease (tag : Half) (s : State) : State :=
  match s.node.state with
  | .safe =>
    if s.bothIn .locked then (s.setNodeState .standby).ackCommand tag resultOk none
    else s.ackCommand tag resultNotReady (some 5)
  | .standby | .active | .winddown | .offline => s.ackCommand tag resultBadState none

/-- The fault list emptied, with its overflow flag and count (R138). -/
def State.clearFaults (s : State) : State :=
  s.setSupervision { s.supervision with faults := [], overflow := false, overflowCount := 0 }

/-- A delivered CLEAR_FAULTS (R121). -/
def State.takeClearFaults (tag : Half) (s : State) : State :=
  match s.node.state with
  | .standby | .active | .winddown | .safe => s.clearFaults.ackCommand tag resultOk none
  | .offline => s.ackCommand tag resultBadState none

/-- The command reset: every block but the Trunk Unit takes its command-reset values, and the fault record list with its
overflow and sequence counter is kept (R120, 6.6.1). -/
def State.commandReset (s : State) : State :=
  { s with
    window := RouteWindow.initial
    tables := Tables.initial
    odometry := Odometry.initial
    generator := Generator.initial
    tilt := Tilt.initial
    node := { state := .standby, params := Params.initial, unlockTimer := none }
    supervision :=
      { s.supervision with stage := .lost, timer := none, snapshot := none, ignoredSnapshots := 0 } }

/-- A delivered RESET (R120): the ACK is placed before the reset is taken. -/
def State.takeReset (tag : Half) (s : State) : State :=
  match s.node.state with
  | .standby | .safe =>
    if s.bothIn .locked then (s.ackCommand tag resultOk none).commandReset
    else s.ackCommand tag resultNotReady (some 5)
  | .active | .winddown | .offline => s.ackCommand tag resultBadState none

/-- A delivered COMMAND of any code (R113, TABLE 10-II). -/
def State.takeCommand (tag : Half) (code : Byte) (s : State) : State :=
  match code.toNat with
  | 1 => s.takeEnable tag
  | 2 => s.takeDisable tag
  | 3 => s.takeRelease tag
  | 4 => s.takeClearFaults tag
  | 5 => s.takeReset tag
  | _ => s.ackCommand tag resultMalformed none

end Sys2Proof.Machine
end

