-- ==== Sys2Proof/Machine/Query.lean ====
section
/-! DEFINITION. The query handler: the ten items, their argument checks and the REPORT contents byte for byte (R162 to
R165, R168, TABLES 9-II, 9-III and 10-IX). -/

namespace Sys2Proof.Machine

/-! ## Item codes (TABLE 9-II) -/

def itemStatus : Byte := 1
def itemWindow : Byte := 2
def itemSegment : Byte := 3
def itemTableRow : Byte := 4
def itemThresholds : Byte := 5
def itemFaults : Byte := 6
def itemSnapshot : Byte := 7
def itemSnapshotPeek : Byte := 8
def itemParam : Byte := 9
def itemCounters : Byte := 10

/-! ## Contents (TABLE 10-IX) -/

/-- An optional field: a presence byte, then its bytes, or as many zeros (R168). -/
def optionalField (n : Nat) (bytes : Option (List Byte)) : List Byte :=
  match bytes with
  | some bs => 1 :: bs
  | none => 0 :: List.replicate n 0

/-- The four channel fields of STATUS and SNAPSHOT; without a feedback record lock state 0 and angle 0 are sent (TABLE
10-IX note 2). -/
def ChannelView.bytes (v : ChannelView) : List Byte :=
  [v.state.code, signedByte v.lastDemand] ++
    match v.feedback with
    | some (angle, lock) => int16 angle ++ [lock.code]
    | none => [0, 0, 0]

/-- The four bytes of a last fix jump. The spec states none for a jump outside signed 32 bits: a free value of the jump
(DESIGN CHOICE, log entry 28). -/
def fixJumpBytes (jump : Int) : List Byte :=
  if -2147483648 ≤ jump ∧ jump ≤ 2147483647 then int32 jump else wordBytes (Config.unstatedFixJump jump)

/-- STATUS (TABLE 9-III). -/
def State.statusContents (s : State) : List Byte :=
  [s.node.state.code, s.trunk.addressByte, headPortCode s.trunk.headPort, s.supervision.stage.code,
    flagByte s.odometry.aligned] ++
  int32 s.odometry.pNode ++ nat16 s.odometry.speed ++ [s.odometry.direction.code, byteOf s.odometry.discrepancies] ++
  optionalField 4 (s.odometry.lastFixJump.map fixJumpBytes) ++
  (s.channelView .CH1).bytes ++ (s.channelView .CH2).bytes ++
  [s.tables.active.code, s.tables.bankA.state.code, s.tables.bankB.state.code, flagByte s.tables.swapPending,
    byteOf s.window.segments.length, byteOf s.supervision.faults.length, flagByte s.supervision.overflow]

/-- The head and tail fields of WINDOW: all four absent when the window is empty (R26). -/
def RouteWindow.ends (w : RouteWindow) : Option (List Byte) :=
  match w.segments.head?, w.segments.getLast? with
  | some h, some t => some (nat16 h.id ++ nat32 h.start ++ nat16 t.id ++ nat32 t.stop)
  | _, _ => none

/-- The fields of a last-refusal record. -/
def LastRefusal.bytes (r : LastRefusal) : List Byte := byteOf r.reason.code :: nat16 r.id

/-- The fields of a last-withdrawal record. -/
def LastWithdrawal.bytes (r : LastWithdrawal) : List Byte :=
  [r.requested.code] ++ optionalField 2 (r.id.map nat16) ++ [r.performed.code, byteOf r.removed]

/-- WINDOW (R26). -/
def RouteWindow.contents (w : RouteWindow) : List Byte :=
  [byteOf w.segments.length] ++ optionalField 12 w.ends ++ optionalField 3 (w.lastRefusal.map LastRefusal.bytes) ++
    optionalField 6 (w.lastWithdrawal.map LastWithdrawal.bytes) ++ nat16 w.runouts

/-- The three bytes of a profile. -/
def Profile.bytes (p : Profile) : List Byte := [byteOf p.cls, p.hand.code, byteOf p.cant]

/-- The kind byte and the exit-profile bytes of a segment record; a CONSTANT segment's exit bytes are sent as 0. -/
def SegmentKind.bytes (k : SegmentKind) : Byte × List Byte :=
  match k with
  | .constant => (0, [0, 0, 0])
  | .spiral e => (1, e.bytes)

/-- The flags byte of TABLE 10-IV. -/
def Segment.flags (g : Segment) : Byte :=
  byteOf ((if g.tiltLimit.isSome then 1 else 0) + (if g.rateLimit.isSome then 2 else 0) + (if g.inhibit then 4 else 0))

/-- A segment record in the layout of TABLE 10-IV. -/
def Segment.bytes (g : Segment) : List Byte :=
  nat16 g.id ++ nat32 g.start ++ nat16 g.length ++ [g.kind.bytes.1] ++ g.entry.bytes ++ g.kind.bytes.2 ++
    [byteOf (g.tiltLimit.getD 0), byteOf (g.rateLimit.getD 0), g.flags]

/-- SEGMENT i: the record, or the marker NONE (R26). -/
def RouteWindow.segmentContents (w : RouteWindow) (i : Nat) : List Byte :=
  match w.segments[i]? with
  | some g => 1 :: g.bytes
  | none => [0]

/-- TABLE ROW (R42). -/
def Bank.rowContents (b : Bank) (cls : Nat) : List Byte := (b.row cls).map byteOf

/-- THRESHOLDS (R42). -/
def Bank.thresholdContents (b : Bank) : List Byte := (b.thresholds.map nat16).flatten

/-- The ten bytes of a fault record. -/
def FaultRecord.bytes (r : FaultRecord) : List Byte :=
  [r.sequence, r.cls.code, channelCode r.channel, r.node.code] ++ optionalField 4 (r.pNode.map int32) ++
    [byteOf r.detail]

/-- FAULTS k: up to three records from index k, with the totals (R164). -/
def Supervision.faultContents (v : Supervision) (k : Nat) : List Byte :=
  let shown := (v.faults.drop k).take 3
  [byteOf shown.length, byteOf v.faults.length, flagByte v.overflow] ++ nat16 v.overflowCount ++ [v.sequence] ++
    (shown.map FaultRecord.bytes).flatten

/-- SNAPSHOT: the marker EMPTY, or LATCHED and the contents of TABLE 7-III (R165). -/
def snapshotContents (r : Option Snapshot) : List Byte :=
  match r with
  | none => [0]
  | some p =>
    [1] ++ halfBytes p.tag ++ [p.node.code, p.stage.code, flagByte p.aligned] ++ int32 p.pNode ++ nat16 p.speed ++
      p.ch1.bytes ++ p.ch2.bytes ++ [byteOf p.depth, p.active.code]

/-- The staged value that a PARAM item carries, for WHEEL_FACTOR alone. -/
def State.stagedValue (s : State) (i : ParamId) : Option Int :=
  match i with
  | .wheelFactor => s.odometry.stagedFactor
  | _ => none

/-- PARAM (R128, R168 note 1). -/
def State.paramContents (s : State) (ident : Byte) (i : ParamId) : List Byte :=
  [ident] ++ int32 (s.params.get i) ++ [flagByte (s.params.valid i)] ++ optionalField 4 ((s.stagedValue i).map int32)

/-- COUNTERS (R164). Each kind of port counter is sent for port A and then for port B, in the order of TABLE 8-VI (log
entry 13). -/
def State.counterContents (s : State) : List Byte :=
  nat16 s.trunk.rxErrorsA ++ nat16 s.trunk.rxErrorsB ++ nat16 s.trunk.wrongSideA ++ nat16 s.trunk.wrongSideB ++
  nat16 s.trunk.dropsB ++ nat16 s.trunk.dropsA ++ nat16 s.trunk.ownDrops ++ nat16 s.odometry.stalePositions ++
  nat16 s.window.refusals ++ nat16 s.odometry.phaseFaultTotal ++ nat16 s.supervision.ignoredSnapshots ++
  nat16 s.tilt.ch1.lateFeedbacks ++ nat16 s.tilt.ch2.lateFeedbacks ++
  [s.trunk.portA.link.code, rateCode s.trunk.portA.rate, s.trunk.portB.link.code, rateCode s.trunk.portB.rate]

/-! ## Answers -/

/-- An answer OK with contents. -/
def State.reportOk (s : State) (item : Byte) (tag : Half) (contents : List Byte) : State :=
  s.report item tag resultOk none contents

/-- STATUS. -/
def State.answerStatus (tag : Half) (s : State) : State := s.reportOk itemStatus tag s.statusContents

/-- WINDOW. -/
def State.answerWindow (tag : Half) (s : State) : State := s.reportOk itemWindow tag s.window.contents

/-- SEGMENT. -/
def State.answerSegment (tag : Half) (arg1 : Byte) (s : State) : State :=
  s.reportOk itemSegment tag (s.window.segmentContents arg1.toNat)

/-- TABLE ROW: a bank of no code is MALFORMED, a class above 31 is RANGE with detail 2 (R162). -/
def State.answerTableRow (tag : Half) (arg1 arg2 : Byte) (s : State) : State :=
  match bankOf arg1 with
  | none => s.report itemTableRow tag resultMalformed none []
  | some b =>
    if 31 < arg2.toNat then s.report itemTableRow tag resultRange (some 2) []
    else s.reportOk itemTableRow tag ((s.tables.bank b).rowContents arg2.toNat)

/-- THRESHOLDS. -/
def State.answerThresholds (tag : Half) (arg1 : Byte) (s : State) : State :=
  match bankOf arg1 with
  | none => s.report itemThresholds tag resultMalformed none []
  | some b => s.reportOk itemThresholds tag (s.tables.bank b).thresholdContents

/-- FAULTS: an index above 7 is RANGE with detail 1 (R162). -/
def State.answerFaults (tag : Half) (arg1 : Byte) (s : State) : State :=
  if 7 < arg1.toNat then s.report itemFaults tag resultRange (some 1) []
  else s.reportOk itemFaults tag (s.supervision.faultContents arg1.toNat)

/-- SNAPSHOT, the destructive query: the register is EMPTY afterwards, whatever becomes of the REPORT (R143, R165). -/
def State.answerSnapshot (tag : Half) (s : State) : State :=
  (s.setSupervision { s.supervision with snapshot := none }).reportOk itemSnapshot tag
    (snapshotContents s.supervision.snapshot)

/-- SNAPSHOT_PEEK. -/
def State.answerSnapshotPeek (tag : Half) (s : State) : State :=
  s.reportOk itemSnapshotPeek tag (snapshotContents s.supervision.snapshot)

/-- PARAM: an identifier outside 1 to 20 is RANGE with detail 1 (R162). -/
def State.answerParam (tag : Half) (arg1 : Byte) (s : State) : State :=
  match paramOf arg1 with
  | none => s.report itemParam tag resultRange (some 1) []
  | some i => s.reportOk itemParam tag (s.paramContents arg1 i)

/-- COUNTERS. -/
def State.answerCounters (tag : Half) (s : State) : State := s.reportOk itemCounters tag s.counterContents

/-- A delivered QUERY of any item; an item of no code is MALFORMED, its REPORT carrying the code received (R162, log
entry 26). -/
def State.takeQuery (tag : Half) (item arg1 arg2 : Byte) (s : State) : State :=
  match item.toNat with
  | 1 => s.answerStatus tag
  | 2 => s.answerWindow tag
  | 3 => s.answerSegment tag arg1
  | 4 => s.answerTableRow tag arg1 arg2
  | 5 => s.answerThresholds tag arg1
  | 6 => s.answerFaults tag arg1
  | 7 => s.answerSnapshot tag
  | 8 => s.answerSnapshotPeek tag
  | 9 => s.answerParam tag arg1
  | 10 => s.answerCounters tag
  | _ => s.report item tag resultMalformed none []

end Sys2Proof.Machine
end

