-- ==== Sys2Proof/Machine/Schedule.lean ====
section
/-! DEFINITION. The table requests: TABLE WRITE, TABLE THRESHOLDS, TABLE TRIM, BANK VERIFY and BANK SWAP (R31 to R43). -/

namespace Sys2Proof.Machine

/-- Replaces a bank. -/
def Tables.setBank (t : Tables) : BankName → Bank → Tables
  | .A, b => { t with bankA := b }
  | .B, b => { t with bankB := b }

/-- The answer of a table request: result, detail, and the tables after it. -/
structure TableAnswer where
  result : Byte
  detail : Option Nat
  tables : Tables
  deriving DecidableEq, Repr

/-- A refusal: nothing changes (R31). -/
def Tables.refuse (t : Tables) (result : Byte) (detail : Option Nat) : TableAnswer :=
  { result := result, detail := detail, tables := t }

/-- Checks 1 to 3 of TABLE 2-II, in order, before a request for a named bank. -/
def Tables.request (t : Tables) (bank : Byte) (act : BankName → TableAnswer) : TableAnswer :=
  match bankOf bank with
  | none => t.refuse resultMalformed none
  | some b =>
    if t.swapPending then t.refuse resultBusy none
    else if b = t.active then t.refuse resultActiveBank none
    else act b

/-- An accepted write: the bank is LOADING (R35). -/
def Tables.accept (t : Tables) (b : BankName) (x : Bank) : TableAnswer :=
  { result := resultOk, detail := none, tables := t.setBank b { x with state := .loading } }

/-- The position, from 1, of the first element with a property. -/
def firstPosition {α : Type} (p : α → Bool) (xs : List α) : Option Nat := (xs.findIdx? p).map (· + 1)

/-- A triplet out of range (R32). -/
def Triplet.outOfRange (t : Triplet) : Bool :=
  decide (31 < t.cls.toNat) || decide (15 < t.band.toNat) || decide (100 < t.value.toNat)

/-- One entry written. -/
def Bank.write (b : Bank) (cls band value : Nat) : Bank :=
  { b with rows := b.rows.set cls ((b.row cls).set band value) }

/-- Triplets written in telegram order (R32). -/
def Bank.writeAll (b : Bank) (ts : List Triplet) : Bank :=
  ts.foldl (fun b t => b.write t.cls.toNat t.band.toNat t.value.toNat) b

/-- TABLE WRITE on the tables (R32). -/
def Tables.write (t : Tables) (bank : Byte) (ts : List Triplet) : TableAnswer :=
  t.request bank (fun b =>
    match firstPosition Triplet.outOfRange ts with
    | some n => t.refuse resultRange (some n)
    | none => t.accept b ((t.bank b).writeAll ts))

/-- Values written to consecutive thresholds from an index upward (R33). -/
def writeFrom (xs : List Nat) (first : Nat) : List Nat → List Nat
  | [] => xs
  | v :: vs => writeFrom (xs.set first v) (first + 1) vs

/-- TABLE THRESHOLDS on the tables (R33). -/
def Tables.writeThresholds (t : Tables) (bank first : Byte) (vs : List Half) : TableAnswer :=
  t.request bank (fun b =>
    if 14 < first.toNat ∨ 15 < first.toNat + vs.length then t.refuse resultRange (some 0)
    else
      match firstPosition (fun v => decide (10000 < v.toNat)) vs with
      | some n => t.refuse resultRange (some n)
      | none =>
        t.accept b
          { t.bank b with thresholds := writeFrom (t.bank b).thresholds first.toNat (vs.map (·.toNat)) })

/-- A sum stored as 0 below 0 and as 100 above 100 (R34). -/
def trimEntry (trim : Int) (e : Nat) : Nat := (max 0 (min 100 ((e : Int) + trim))).toNat

/-- A row trimmed (R34). -/
def Bank.trimRow (b : Bank) (cls : Nat) (trim : Int) : Bank :=
  { b with rows := b.rows.set cls ((b.row cls).map (trimEntry trim)) }

/-- TABLE TRIM on the tables (R34). -/
def Tables.trim (t : Tables) (bank cls trim : Byte) : TableAnswer :=
  t.request bank (fun b =>
    if cls.toNat = 0 ∨ 31 < cls.toNat then t.refuse resultRange (some 1)
    else if trim.toInt < -100 ∨ 100 < trim.toInt then t.refuse resultRange (some 2)
    else t.accept b ((t.bank b).trimRow cls.toNat trim.toInt))

/-- Every element is less than the next. -/
def ascending : List Nat → Bool
  | [] => true
  | [_] => true
  | a :: b :: rest => decide (a < b) && ascending (b :: rest)

/-- The detail of the first check of R36 that a bank fails. -/
def Bank.defect (b : Bank) : Option Nat :=
  if !ascending b.thresholds then some 1
  else if !(b.row 0).all (fun e => decide (e = 0)) then some 2
  else if !b.rows.all (fun r => r.all (fun e => decide (e ≤ 100))) then some 3
  else none

/-- BANK VERIFY on the tables (R36). -/
def Tables.verify (t : Tables) (bank : Byte) : TableAnswer :=
  t.request bank (fun b =>
    match (t.bank b).defect with
    | some d => t.refuse resultBadBank (some d)
    | none =>
      { result := resultOk, detail := none, tables := t.setBank b { t.bank b with state := .verified } })

/-- BANK SWAP on the tables (R37). -/
def Tables.swap (t : Tables) : TableAnswer :=
  if t.swapPending then t.refuse resultBusy none
  else
    match t.inactiveBank.state with
    | .empty => t.refuse resultBadBank (some 1)
    | .loading => t.refuse resultBadBank (some 2)
    | .verified => { result := resultPending, detail := none, tables := { t with swapPending := true } }

/-- The tables after a request, and its one ACK (R31, R160). -/
def State.answerTable (s : State) (kind : Byte) (tag : Half) (a : TableAnswer) : State :=
  (s.setTables a.tables).ack kind tag a.result a.detail

/-- A delivered TABLE WRITE. -/
def State.takeTableWrite (tag : Half) (bank : Byte) (ts : List Triplet) (s : State) : State :=
  s.answerTable kindTableWrite tag (s.tables.write bank ts)

/-- A delivered TABLE THRESHOLDS. -/
def State.takeTableThresholds (tag : Half) (bank first : Byte) (vs : List Half) (s : State) : State :=
  s.answerTable kindTableThresholds tag (s.tables.writeThresholds bank first vs)

/-- A delivered TABLE TRIM. -/
def State.takeTableTrim (tag : Half) (bank cls trim : Byte) (s : State) : State :=
  s.answerTable kindTableTrim tag (s.tables.trim bank cls trim)

/-- A delivered BANK VERIFY. -/
def State.takeBankVerify (tag : Half) (bank : Byte) (s : State) : State :=
  s.answerTable kindBankVerify tag (s.tables.verify bank)

/-- A delivered BANK SWAP. -/
def State.takeBankSwap (tag : Half) (s : State) : State :=
  s.answerTable kindBankSwap tag s.tables.swap

end Sys2Proof.Machine
end

