-- ==== Sys2Proof/Machine/Management.lean ====
section
/-! DEFINITION. The management telegrams: PARAM, the five table requests, the five commands and the ten query items. Each
arrives, is routed by TABLE 8-IV and, addressed to this node on its head port, is taken by its block and answered. -/

namespace Sys2Proof.Machine

/-- PARAM (R126). -/
def execParam (a : Arrival) (ident : Byte) (value : Word) (s : State) : Host.Outcome State Fault Refusal :=
  event (fun s => s.arrive a.port ((Body.param ident value).telegram a) (State.takeParam a.tag ident value)) s

/-- TABLE WRITE (R32). -/
def execTableWrite (a : Arrival) (bank : Byte) (triplets : List Triplet) (s : State) : Host.Outcome State Fault Refusal :=
  event (fun s =>
    s.arrive a.port ((Body.tableWrite bank triplets).telegram a)
      (State.takeTableWrite a.tag bank triplets)) s

/-- TABLE THRESHOLDS (R33). -/
def execTableThresholds (a : Arrival) (bank first : Byte) (values : List Half) (s : State) : Host.Outcome State Fault Refusal :=
  event (fun s =>
    s.arrive a.port ((Body.tableThresholds bank first values).telegram a)
      (State.takeTableThresholds a.tag bank first values)) s

/-- TABLE TRIM (R34). -/
def execTableTrim (a : Arrival) (bank cls trim : Byte) (s : State) : Host.Outcome State Fault Refusal :=
  event (fun s =>
    s.arrive a.port ((Body.tableTrim bank cls trim).telegram a)
      (State.takeTableTrim a.tag bank cls trim)) s

/-- BANK VERIFY (R36). -/
def execBankVerify (a : Arrival) (bank : Byte) (s : State) : Host.Outcome State Fault Refusal :=
  event (fun s => s.arrive a.port ((Body.bankVerify bank).telegram a) (State.takeBankVerify a.tag bank)) s

/-- BANK SWAP (R37). -/
def execBankSwap (a : Arrival) (s : State) : Host.Outcome State Fault Refusal :=
  event (fun s => s.arrive a.port ((Body.bankSwap).telegram a) (State.takeBankSwap a.tag)) s

/-- ENABLE (R114 to R116). -/
def execEnable (a : Arrival) (s : State) : Host.Outcome State Fault Refusal :=
  event (fun s => s.arrive a.port ((Body.command 1).telegram a) (State.takeEnable a.tag)) s

/-- DISABLE (R117). -/
def execDisable (a : Arrival) (s : State) : Host.Outcome State Fault Refusal :=
  event (fun s => s.arrive a.port ((Body.command 2).telegram a) (State.takeDisable a.tag)) s

/-- RELEASE (R119). -/
def execRelease (a : Arrival) (s : State) : Host.Outcome State Fault Refusal :=
  event (fun s => s.arrive a.port ((Body.command 3).telegram a) (State.takeRelease a.tag)) s

/-- CLEAR_FAULTS (R121, R138). -/
def execClearFaults (a : Arrival) (s : State) : Host.Outcome State Fault Refusal :=
  event (fun s => s.arrive a.port ((Body.command 4).telegram a) (State.takeClearFaults a.tag)) s

/-- RESET (R120). -/
def execReset (a : Arrival) (s : State) : Host.Outcome State Fault Refusal :=
  event (fun s => s.arrive a.port ((Body.command 5).telegram a) (State.takeReset a.tag)) s

/-- MALFORMED_COMMAND (R113). -/
def execMalformedCommand (a : Arrival) (code : Byte) (s : State) : Host.Outcome State Fault Refusal :=
  event (fun s => s.arrive a.port ((Body.command code).telegram a) (State.takeCommand a.tag code)) s

/-- QUERY of STATUS (R163). -/
def execQueryStatus (a : Arrival) (arg1 arg2 : Byte) (s : State) : Host.Outcome State Fault Refusal :=
  event (fun s => s.arrive a.port ((Body.query itemStatus arg1 arg2).telegram a) (State.answerStatus a.tag)) s

/-- QUERY of WINDOW (R26). -/
def execQueryWindow (a : Arrival) (arg1 arg2 : Byte) (s : State) : Host.Outcome State Fault Refusal :=
  event (fun s => s.arrive a.port ((Body.query itemWindow arg1 arg2).telegram a) (State.answerWindow a.tag)) s

/-- QUERY of SEGMENT (R26). -/
def execQuerySegment (a : Arrival) (arg1 arg2 : Byte) (s : State) : Host.Outcome State Fault Refusal :=
  event (fun s => s.arrive a.port ((Body.query itemSegment arg1 arg2).telegram a) (State.answerSegment a.tag arg1)) s

/-- QUERY of TABLE ROW (R42). -/
def execQueryTableRow (a : Arrival) (arg1 arg2 : Byte) (s : State) : Host.Outcome State Fault Refusal :=
  event (fun s =>
    s.arrive a.port ((Body.query itemTableRow arg1 arg2).telegram a)
      (State.answerTableRow a.tag arg1 arg2)) s

/-- QUERY of THRESHOLDS (R42). -/
def execQueryThresholds (a : Arrival) (arg1 arg2 : Byte) (s : State) : Host.Outcome State Fault Refusal :=
  event (fun s =>
    s.arrive a.port ((Body.query itemThresholds arg1 arg2).telegram a)
      (State.answerThresholds a.tag arg1)) s

/-- QUERY of FAULTS (R164). -/
def execQueryFaults (a : Arrival) (arg1 arg2 : Byte) (s : State) : Host.Outcome State Fault Refusal :=
  event (fun s => s.arrive a.port ((Body.query itemFaults arg1 arg2).telegram a) (State.answerFaults a.tag arg1)) s

/-- QUERY of SNAPSHOT (R143, R165). -/
def execQuerySnapshot (a : Arrival) (arg1 arg2 : Byte) (s : State) : Host.Outcome State Fault Refusal :=
  event (fun s => s.arrive a.port ((Body.query itemSnapshot arg1 arg2).telegram a) (State.answerSnapshot a.tag)) s

/-- QUERY of SNAPSHOT_PEEK (R143, R165). -/
def execQuerySnapshotPeek (a : Arrival) (arg1 arg2 : Byte) (s : State) : Host.Outcome State Fault Refusal :=
  event (fun s =>
    s.arrive a.port ((Body.query itemSnapshotPeek arg1 arg2).telegram a)
      (State.answerSnapshotPeek a.tag)) s

/-- QUERY of PARAM (R128). -/
def execQueryParam (a : Arrival) (arg1 arg2 : Byte) (s : State) : Host.Outcome State Fault Refusal :=
  event (fun s => s.arrive a.port ((Body.query itemParam arg1 arg2).telegram a) (State.answerParam a.tag arg1)) s

/-- QUERY of COUNTERS (R164). -/
def execQueryCounters (a : Arrival) (arg1 arg2 : Byte) (s : State) : Host.Outcome State Fault Refusal :=
  event (fun s => s.arrive a.port ((Body.query itemCounters arg1 arg2).telegram a) (State.answerCounters a.tag)) s

/-- MALFORMED_QUERY (R162). -/
def execMalformedQuery (a : Arrival) (item arg1 arg2 : Byte) (s : State) : Host.Outcome State Fault Refusal :=
  event (fun s => s.arrive a.port ((Body.query item arg1 arg2).telegram a) (State.takeQuery a.tag item arg1 arg2)) s

end Sys2Proof.Machine
end

