-- ==== Sys2Proof/Machine/Reception.lean ====
section
/-! DEFINITION. Telegrams given as bytes: RECEPTION_CHECK_FAILURE, PASS_THROUGH_TELEGRAM and UNKNOWN_KIND (R148 to R150).
What becomes of a telegram is decided by its bytes and the routing alone (log entry 11). -/

namespace Sys2Proof.Machine

/-- What the block that owns a telegram's kind does with it (TABLE 8-II). -/
def actOn (p : Port) (x : Telegram) (s : State) : State :=
  match x.body with
  | none => s
  | some (.position b) => s.takePosition b
  | some (.segment b) => s.takeSegment b
  | some (.withdraw g id) => s.takeWithdraw g id
  | some .snapshot => s.takeSnapshot x.tag
  | some (.enumerate n) => s.takeEnumerate p n
  | some (.param i v) => s.takeParam x.tag i v
  | some (.tableWrite b ts) => s.takeTableWrite x.tag b ts
  | some (.tableThresholds b f vs) => s.takeTableThresholds x.tag b f vs
  | some (.tableTrim b c d) => s.takeTableTrim x.tag b c d
  | some (.bankVerify b) => s.takeBankVerify x.tag b
  | some .bankSwap => s.takeBankSwap x.tag
  | some (.command c) => s.takeCommand x.tag c
  | some (.query i a1 a2) => s.takeQuery x.tag i a1 a2

/-- PASS_THROUGH_TELEGRAM (R149, R151). -/
def execPassThroughTelegram (p : Port) (t : Telegram) (s : State) : Host.Outcome State Fault Refusal :=
  event (fun s => s.arrive p t (actOn p t)) s

/-- UNKNOWN_KIND (R150). -/
def execUnknownKind (p : Port) (t : Telegram) (s : State) : Host.Outcome State Fault Refusal :=
  event (fun s => s.arrive p t (actOn p t)) s

/-- Bytes received to the end of a telegram: they fail a reception check and are discarded with an RX error, or they are
a good telegram (R148, TABLE 8-III). -/
def State.receive (s : State) (p : Port) (r : Received) : State :=
  match r.good, r.telegram with
  | true, some x => s.arrive p x (actOn p x)
  | _, _ => if s.trunk.isUp p then s.rejectReceived p else s

/-- RECEPTION_CHECK_FAILURE (R148). -/
def execReceptionCheckFailure (p : Port) (r : Received) (s : State) : Host.Outcome State Fault Refusal :=
  event (fun s => s.receive p r) s

end Sys2Proof.Machine
end

