-- ==== Sys2Proof/Machine/Resets.lean ====
section
/-! DEFINITION. The power-on reset by the RST_N pin (R170, R171). The command reset is in Machine/Node.lean. -/

namespace Sys2Proof.Machine

/-- Every block at its power-on values, with the pins given; the queue of commands and the free choices made stay. -/
def State.powerOn (s : State) (pins : Pins) : State where
  pins := pins
  trunk := Trunk.initial
  window := RouteWindow.initial
  tables := Tables.initial
  odometry := Odometry.initial
  generator := Generator.initial
  tilt := Tilt.initial
  node := NodeControl.initial
  supervision := Supervision.initial
  freeCount := s.freeCount
  pending := s.pending

/-- POWER_ON_RESET (R170, R171): the rising edge of RST_N, at which RATE_SEL is read. -/
def execPowerOnReset (rateSel1 rateSel0 : Bool) (s : State) : Host.Outcome State Fault Refusal :=
  .next (s.powerOn { rstN := true, rateSel1 := rateSel1, rateSel0 := rateSel0 })

/-- RESET_ASSERTED (R170): RST_N is driven low. RATE_SEL keeps the levels last read until the edge (R171, log entry 7). -/
def execResetAsserted (s : State) : Host.Outcome State Fault Refusal :=
  .next (s.powerOn { s.pins with rstN := false })

end Sys2Proof.Machine
end

