-- ==== Sys2Proof/Machine/Time.lean ====
section
/-! DEFINITION. The tick: what a step on an empty queue does (DESIGN CHOICE, log entries 2 and 18). While no timer of the
node has run out, one microsecond passes; when timers have run out, one of their expiries is put in the queue. -/

namespace Sys2Proof.Machine

/-- A running timer a microsecond later. -/
def tickTimer (t : Option Nat) : Option Nat := t.map (· - 1)

/-- A timer that has run out. -/
def ranOut (t : Option Nat) : Bool := decide (t = some 0)

/-- The sending of a DEMAND frame a microsecond later. -/
def LinkPhase.tick : LinkPhase → LinkPhase
  | .sending f n => .sending f (n - 1)
  | p => p

/-- One microsecond passes (10.4.1: every timer of the node is derived from its one clock). -/
def State.passTime (s : State) : State :=
  { s with
    generator := { s.generator with timer := s.generator.timer - 1 }
    tilt :=
      { s.tilt with
        ch1 := { s.tilt.ch1 with lockTimer := tickTimer s.tilt.ch1.lockTimer }
        ch2 := { s.tilt.ch2 with lockTimer := tickTimer s.tilt.ch2.lockTimer }
        phase := s.tilt.phase.tick
        window := tickTimer s.tilt.window }
    node := { s.node with unlockTimer := tickTimer s.node.unlockTimer }
    supervision := { s.supervision with timer := tickTimer s.supervision.timer } }

/-- The frame being sent has no time left. -/
def LinkPhase.sent : LinkPhase → Bool
  | .sending _ n => decide (n = 0)
  | _ => false

/-- The phase is LISTENING. -/
def LinkPhase.listens : LinkPhase → Bool
  | .listening _ => true
  | _ => false

/-- The expiries of the timers that have run out. -/
def State.due (s : State) : List Instr :=
  (if s.generator.timer = 0 then [.controlPeriodExpiry] else []) ++
  (if s.tilt.phase.sent then [.demandSent] else []) ++
  (if s.tilt.phase.listens ∧ ranOut s.tilt.window then [.exchangeWindowClose] else []) ++
  (if s.tilt.ch1.state = .locking ∧ ranOut s.tilt.ch1.lockTimer then [.lockTimeout .CH1] else []) ++
  (if s.tilt.ch2.state = .locking ∧ ranOut s.tilt.ch2.lockTimer then [.lockTimeout .CH2] else []) ++
  (if ranOut s.node.unlockTimer then [.unlockTimeout] else []) ++
  (if s.supervision.stage ≠ .lost ∧ ranOut s.supervision.timer then [.livenessTimerExpiry] else [])

/-- One of several expiries that are due, by the free value (R99, R134: either may be taken first). -/
def State.chooseDue (s : State) (c : Instr) (cs : List Instr) : Instr :=
  match cs with
  | [] => c
  | d :: ds => (c :: d :: ds).getD (Config.expiryChoice s.freeCount % (ds.length + 2)) c

/-- What a step on an empty queue does. While RST_N is low no timer runs (R170). -/
def State.tick (s : State) : State :=
  if s.pins.rstN then
    match s.due with
    | [] => s.passTime
    | c :: cs => { s with pending := [s.chooseDue c cs], freeCount := s.freeCount + 1 }
  else s

end Sys2Proof.Machine
end

