-- ==== Sys2Proof/Machine/Dispatch.lean ====
section
/-! DEFINITION. The dispatch: one arm per command, each one call of its meaning. -/

namespace Sys2Proof.Machine

/-- The effect of a command on everything but the queue. -/
def exec (i : Instr) (s : State) : Host.Outcome State Fault Refusal :=
  match i with
  | .powerOnReset rateSel1 rateSel0 => Sys2Proof.Machine.execPowerOnReset rateSel1 rateSel0 s
  | .signalAppears p => Sys2Proof.Machine.execSignalAppears p s
  | .portUp p symbols => Sys2Proof.Machine.execPortUp p symbols s
  | .lossOfSignal p => Sys2Proof.Machine.execLossOfSignal p s
  | .symbolErrorLimit p => Sys2Proof.Machine.execSymbolErrorLimit p s
  | .receptionCheckFailure p r => Sys2Proof.Machine.execReceptionCheckFailure p r s
  | .passThroughTelegram p t => Sys2Proof.Machine.execPassThroughTelegram p t s
  | .unknownKind p t => Sys2Proof.Machine.execUnknownKind p t s
  | .arbiterChoice => Sys2Proof.Machine.execArbiterChoice s
  | .transitTransmitStart p => Sys2Proof.Machine.execTransitTransmitStart p s
  | .transmissionEnd p => Sys2Proof.Machine.execTransmissionEnd p s
  | .position a b => Sys2Proof.Machine.execPosition a b s
  | .tachTransition levelA levelB => Sys2Proof.Machine.execTachTransition levelA levelB s
  | .segment a b => Sys2Proof.Machine.execSegment a b s
  | .withdraw a granularity id => Sys2Proof.Machine.execWithdraw a granularity id s
  | .snapshot a => Sys2Proof.Machine.execSnapshot a s
  | .enumerate a next => Sys2Proof.Machine.execEnumerate a next s
  | .param a ident value => Sys2Proof.Machine.execParam a ident value s
  | .tableWrite a bank triplets => Sys2Proof.Machine.execTableWrite a bank triplets s
  | .tableThresholds a bank first values => Sys2Proof.Machine.execTableThresholds a bank first values s
  | .tableTrim a bank cls trim => Sys2Proof.Machine.execTableTrim a bank cls trim s
  | .bankVerify a bank => Sys2Proof.Machine.execBankVerify a bank s
  | .bankSwap a => Sys2Proof.Machine.execBankSwap a s
  | .enable a => Sys2Proof.Machine.execEnable a s
  | .disable a => Sys2Proof.Machine.execDisable a s
  | .release a => Sys2Proof.Machine.execRelease a s
  | .clearFaults a => Sys2Proof.Machine.execClearFaults a s
  | .reset a => Sys2Proof.Machine.execReset a s
  | .queryStatus a arg1 arg2 => Sys2Proof.Machine.execQueryStatus a arg1 arg2 s
  | .queryWindow a arg1 arg2 => Sys2Proof.Machine.execQueryWindow a arg1 arg2 s
  | .querySegment a arg1 arg2 => Sys2Proof.Machine.execQuerySegment a arg1 arg2 s
  | .queryTableRow a arg1 arg2 => Sys2Proof.Machine.execQueryTableRow a arg1 arg2 s
  | .queryThresholds a arg1 arg2 => Sys2Proof.Machine.execQueryThresholds a arg1 arg2 s
  | .queryFaults a arg1 arg2 => Sys2Proof.Machine.execQueryFaults a arg1 arg2 s
  | .querySnapshot a arg1 arg2 => Sys2Proof.Machine.execQuerySnapshot a arg1 arg2 s
  | .querySnapshotPeek a arg1 arg2 => Sys2Proof.Machine.execQuerySnapshotPeek a arg1 arg2 s
  | .queryParam a arg1 arg2 => Sys2Proof.Machine.execQueryParam a arg1 arg2 s
  | .queryCounters a arg1 arg2 => Sys2Proof.Machine.execQueryCounters a arg1 arg2 s
  | .controlPeriodExpiry => Sys2Proof.Machine.execControlPeriodExpiry s
  | .demandSent => Sys2Proof.Machine.execDemandSent s
  | .feedbackFrame chars => Sys2Proof.Machine.execFeedbackFrame chars s
  | .exchangeWindowClose => Sys2Proof.Machine.execExchangeWindowClose s
  | .lockTimeout c => Sys2Proof.Machine.execLockTimeout c s
  | .unlockTimeout => Sys2Proof.Machine.execUnlockTimeout s
  | .livenessTimerExpiry => Sys2Proof.Machine.execLivenessTimerExpiry s
  | .resetAsserted => Sys2Proof.Machine.execResetAsserted s
  | .startDelimiterReceived p => Sys2Proof.Machine.execStartDelimiterReceived p s
  | .malformedCommand a code => Sys2Proof.Machine.execMalformedCommand a code s
  | .malformedQuery a item arg1 arg2 => Sys2Proof.Machine.execMalformedQuery a item arg1 arg2 s

end Sys2Proof.Machine
end

