-- ==== Sys2Proof/WellFormed.lean ====
section
/-! DEFINITION. Which operands a command of each row has: a telegram row carries a telegram that its row describes, and a
row about bytes or characters carries some. The meanings hold for every operand; this check is for the statements. -/

namespace Sys2Proof

/-- A broadcast: destination 0 (R149). -/
def Arrival.isBroadcast (a : Arrival) : Bool := decide (a.dest = 0)

/-- Addressed to a node: destination 1 to 16 (TABLE 10-I). -/
def Arrival.isAddressed (a : Arrival) : Bool := decide (1 ≤ a.dest.toNat ∧ a.dest.toNat ≤ 16)

/-- The row's own operand condition. -/
def Instr.wf : Instr → Bool
  | .powerOnReset _ _ => true
  | .signalAppears _ => true
  | .portUp _ symbols => !symbols.isEmpty
  | .lossOfSignal _ => true
  | .symbolErrorLimit _ => true
  | .receptionCheckFailure _ r => !r.good
  | .passThroughTelegram _ t => t.lengthOk
  | .unknownKind _ t =>
    t.lengthOk && decide (1 ≤ t.dest.toNat ∧ t.dest.toNat ≤ 16) && !Machine.isManagementKind t.kind
  | .arbiterChoice => true
  | .transitTransmitStart _ => true
  | .transmissionEnd _ => true
  | .position a _ => a.isBroadcast
  | .tachTransition _ _ => true
  | .segment a _ => a.isBroadcast
  | .withdraw a _ _ => a.isBroadcast
  | .snapshot a => a.isBroadcast
  | .enumerate a _ => a.isBroadcast
  | .param a _ _ => a.isAddressed
  | .tableWrite a _ ts => a.isAddressed && decide (1 ≤ ts.length ∧ ts.length ≤ 7)
  | .tableThresholds a _ _ vs => a.isAddressed && decide (1 ≤ vs.length ∧ vs.length ≤ 15)
  | .tableTrim a _ _ _ => a.isAddressed
  | .bankVerify a _ => a.isAddressed
  | .bankSwap a => a.isAddressed
  | .enable a => a.isAddressed
  | .disable a => a.isAddressed
  | .release a => a.isAddressed
  | .clearFaults a => a.isAddressed
  | .reset a => a.isAddressed
  | .queryStatus a _ _ => a.isAddressed
  | .queryWindow a _ _ => a.isAddressed
  | .querySegment a _ _ => a.isAddressed
  | .queryTableRow a _ _ => a.isAddressed
  | .queryThresholds a _ _ => a.isAddressed
  | .queryFaults a _ _ => a.isAddressed
  | .querySnapshot a _ _ => a.isAddressed
  | .querySnapshotPeek a _ _ => a.isAddressed
  | .queryParam a _ _ => a.isAddressed
  | .queryCounters a _ _ => a.isAddressed
  | .controlPeriodExpiry => true
  | .demandSent => true
  | .feedbackFrame chars => !chars.isEmpty
  | .exchangeWindowClose => true
  | .lockTimeout _ => true
  | .unlockTimeout => true
  | .livenessTimerExpiry => true
  | .resetAsserted => true
  | .startDelimiterReceived _ => true
  | .malformedCommand a code => a.isAddressed && !decide (1 ≤ code.toNat ∧ code.toNat ≤ 5)
  | .malformedQuery a item _ _ => a.isAddressed && !decide (1 ≤ item.toNat ∧ item.toNat ≤ 10)

/-- A body whose lists have the lengths that its kind permits (TABLE 10-II). -/
def Body.wf : Body → Bool
  | .tableWrite _ ts => decide (1 ≤ ts.length ∧ ts.length ≤ 7)
  | .tableThresholds _ _ vs => decide (1 ≤ vs.length ∧ vs.length ≤ 15)
  | _ => true

end Sys2Proof
end

