-- ==== Sys2Proof/Safety.lean ====
section
/-! DEFINITION. What counts as a sound state, in the terms that statements use: the laws that the spec states of each
block and across blocks, the conditions under which a telegram is delivered, and what a frame leaves unchanged. -/

namespace Sys2Proof.Machine

/-! ## Laws of one block -/

/-- A segment follows another: a greater id, contiguous, and with its exit profile as entry profile (R3). -/
def Segment.follows (g h : Segment) : Prop := g.id < h.id ∧ h.start = g.stop ∧ h.entry = g.exit

/-- Every segment follows the one before it. -/
def linked : List Segment → Prop
  | [] => True
  | [_] => True
  | g :: h :: rest => g.follows h ∧ linked (h :: rest)

/-- The law of the route window (R3) with the ranges of its counters (R4). -/
structure RouteWindow.Law (w : RouteWindow) : Prop where
  depth : w.segments.length ≤ 64
  wellFormed : ∀ g ∈ w.segments, g.wf = true
  linked : linked w.segments
  refusals : w.refusals ≤ 65535
  runouts : w.runouts ≤ 65535

/-- The law of a bank: its shape and ranges (R27), zeros while EMPTY and the checks of BANK VERIFY while VERIFIED (R29). -/
structure Bank.Law (b : Bank) : Prop where
  rows : b.rows.length = 32
  columns : ∀ r ∈ b.rows, r.length = 16
  entries : ∀ r ∈ b.rows, ∀ e ∈ r, e ≤ 100
  thresholds : b.thresholds.length = 15
  speeds : ∀ t ∈ b.thresholds, t ≤ 10000
  emptyZero : b.state = .empty → (∀ r ∈ b.rows, ∀ e ∈ r, e = 0) ∧ ∀ t ∈ b.thresholds, t = 0
  verified : b.state = .verified → b.defect = none

/-- The law of the tables: both banks, and a pending swap brings in a VERIFIED bank (R37). -/
structure Tables.Law (t : Tables) : Prop where
  bankA : t.bankA.Law
  bankB : t.bankB.Law
  pending : t.swapPending = true → t.inactiveBank.state = .verified

/-- A port that is not UP has no rate, receives and transmits nothing; an UP port has a detected rate (R145 to R147). -/
structure PortState.Law (p : PortState) : Prop where
  notUp : p.link ≠ .up → p.rate = none ∧ p.receiving = none ∧ p.sending = none
  up : p.link = .up → p.rate.isSome = true
  training : p.link = .training → p.trainCount < 16
  count : p.trainCount ≤ 16

/-- The law of the Trunk Unit: the capacities of R151, at most one ALERT waiting, the range of the arbiter count and of
the counters. -/
structure Trunk.Law (t : Trunk) : Prop where
  portA : t.portA.Law
  portB : t.portB.Law
  queueA : t.queueA.length ≤ 4
  queueB : t.queueB.length ≤ 4
  own : t.own.length ≤ 8
  alerts : t.own.countP (fun x => decide (x.kind = kindAlert)) ≤ 1
  arbiter : t.arbiter ≤ 4
  rxErrors : t.rxErrorsA ≤ 65535 ∧ t.rxErrorsB ≤ 65535
  wrongSide : t.wrongSideA ≤ 65535 ∧ t.wrongSideB ≤ 65535
  drops : t.dropsA ≤ 65535 ∧ t.dropsB ≤ 65535 ∧ t.ownDrops ≤ 65535
  address : ∀ n, t.address = some n → 1 ≤ n ∧ n ≤ 16
  headKnown : t.headPort.isSome = t.address.isSome

/-- The law of the fault record list (R137) and of the liveness stage (R130 to R133). -/
structure Supervision.Law (v : Supervision) : Prop where
  capacity : v.faults.length ≤ 8
  consecutive : ∀ i r, v.faults[i]? = some r → r.sequence + BitVec.ofNat 8 (v.faults.length - i) = v.sequence
  overflow : v.overflow = true ↔ 0 < v.overflowCount
  counts : v.overflowCount ≤ 65535 ∧ v.ignoredSnapshots ≤ 65535
  timer : v.stage = .lost ↔ v.timer = none

/-- Every parameter that holds a value holds one in its range (TABLE 6-VII). -/
def Params.Law (p : Params) : Prop := ∀ i : ParamId, p.valid i = true → i.inRange (p.get i) = true

/-- The law of the odometry: the ranges of TABLE 3-I and the bounds of R48. -/
structure Odometry.Law (o : Odometry) : Prop where
  fraction : o.fraction ≤ 65535
  lower : Config.minPosition ≤ o.pNode
  upper : o.pNode ≤ Config.maxPosition
  speed : o.speed ≤ 10000
  discrepancies : o.discrepancies ≤ 255
  phaseFaults : o.phaseFaults ≤ 255
  totals : o.stalePositions ≤ 65535 ∧ o.phaseFaultTotal ≤ 65535
  staged : ∀ f, o.stagedFactor = some f → 1 ≤ f ∧ f ≤ 1048575

/-! ## Laws across blocks -/

/-- The channel states that a node state admits (TABLE 6-II). -/
def admits (n : NodeState) (x : ChannelState) : Bool :=
  match n, x with
  | .offline, .locked | .offline, .locking | .offline, .failed => true
  | .standby, .locked | .standby, .locking | .standby, .failed => true
  | .active, .unlocking | .active, .tracking | .active, .returning => true
  | .winddown, .returning | .winddown, .locking | .winddown, .locked => true
  | .safe, .returning | .safe, .locking | .safe, .locked | .safe, .failed => true
  | _, _ => false

/-- A channel may hold a demand other than 0 (TABLE 4-II). -/
def ChannelState.tilts : ChannelState → Bool
  | .tracking | .returning => true
  | .locked | .unlocking | .locking | .failed => false

/-- The DEMAND frames of the expiry that are not yet judged. -/
def Tilt.frames (t : Tilt) : List DemandFrame :=
  (match t.phase with
    | .idle => []
    | .sending f _ => [f]
    | .listening f => [f]) ++ t.waiting.toList

/-- The law of the modes: what the node state, the channels, the timers, the alignment and the tables say of one another
(R96, R112, R145, TABLES 4-II, 5-IV and 6-II). -/
structure State.ModeLaw (s : State) : Prop where
  headKnown : s.trunk.headPort.isSome = decide (s.node.state ≠ .offline)
  addressHeld : s.trunk.address.isSome = decide (s.node.state ≠ .offline)
  channel1 : admits s.node.state s.tilt.ch1.state = true
  channel2 : admits s.node.state s.tilt.ch2.state = true
  pair : s.node.state = .active → s.tilt.ch1.state = s.tilt.ch2.state
  runout : s.generator.runout = true ↔ s.node.state = .active ∧ s.tilt.ch1.state = .returning
  alignedOnline : s.odometry.aligned = true → s.node.state ≠ .offline
  activeReady : s.node.state = .active → s.odometry.aligned = true ∧ s.params.allValid = true
  activeBank : s.node.state = .active → s.tables.activeBank.state = .verified
  swap : s.tables.swapPending = true → s.tables.inactiveBank.state = .verified
  unlock : s.node.unlockTimer.isSome = true ↔ s.tilt.ch1.state = .unlocking
  marks : ∀ c, (s.channel c).mark = true → (s.channel c).state = .unlocking ∧ (s.channel c.other).mark = false
  lockTimers : ∀ c, (s.channel c).lockTimer.isSome = true ↔ (s.channel c).state = .locking
  demandZero : ∀ c, (s.channel c).state.tilts = false → s.lastDemand c = 0
  frames : ∀ f ∈ s.tilt.frames, f.demand = s.turn (s.lastDemand f.drive)

/-- The law of the demands: no demand held, and none in a DEMAND frame, exceeds AUTHORITY in magnitude, and a frame that
requests ENGAGE carries 0 (R79, R90), with the laws that it rests on. -/
structure State.DemandLaw (s : State) : Prop where
  mode : s.ModeLaw
  params : s.params.Law
  odometry : s.odometry.Law
  bound : ∀ c, ((s.lastDemand c).natAbs : Int) ≤ s.params.authority
  framed : ∀ f ∈ s.tilt.frames, (f.demand.natAbs : Int) ≤ s.params.authority
  engaged : ∀ f ∈ s.tilt.frames, f.lock = .engage → f.demand = 0

/-! ## Delivery -/

/-- The node takes events and a port is UP. -/
def State.Live (s : State) (p : Port) : Prop := s.pins.rstN = true ∧ (s.trunk.port p).link = .up

/-- A broadcast that the node acts on: it arrives on the head port (TABLE 8-IV). -/
structure State.Broadcasts (s : State) (a : Arrival) : Prop where
  live : s.Live a.port
  head : s.trunk.headPort = some a.port
  dest : a.dest = 0

/-- A management telegram that the node acts on: it arrives on the head port with the node's own address (TABLE 8-IV). -/
structure State.Delivers (s : State) (a : Arrival) : Prop where
  live : s.Live a.port
  head : s.trunk.headPort = some a.port
  own : s.trunk.address = some a.dest.toNat
  dest : 1 ≤ a.dest.toNat ∧ a.dest.toNat ≤ 16

/-- The state once the telegram being received on a port has been taken at the end of its CRC (R148). -/
def State.taken (s : State) (p : Port) : State := s.setTrunk (s.trunk.endReceiving p)

/-- The Trunk Unit after a delivered telegram and its reply (R148, R152). -/
def State.replied (s : State) (a : Arrival) (x : Telegram) : Trunk := (s.trunk.endReceiving a.port).placeOwn x

/-- The Trunk Unit after a delivered telegram that is answered by an ACK (R160). -/
def State.acked (s : State) (a : Arrival) (kind result : Byte) (detail : Option Nat) : Trunk :=
  s.replied a (s.trunk.ackTelegram kind a.tag result detail)

/-- The Trunk Unit after a delivered QUERY that is answered by a REPORT (R160). -/
def State.reported (s : State) (a : Arrival) (item result : Byte) (detail : Option Nat) (contents : List Byte) : Trunk :=
  s.replied a (s.trunk.reportTelegram item a.tag result detail contents)

/-- The Trunk Unit after a telegram on a port is offered to the transit queue that feeds the other port (R149). -/
def State.passedOn (s : State) (p : Port) (x : Telegram) : Trunk := (s.trunk.endReceiving p).offer p.other x

/-- The Trunk Unit after a broadcast is forwarded unchanged and nothing else is queued (R149). -/
def State.forwarded (s : State) (a : Arrival) (b : Body) : Trunk := s.passedOn a.port (b.telegram a)

/-- A state whose Trunk Unit then forwards a telegram that arrived on a port. -/
def State.thenForwards (s : State) (p : Port) (x : Telegram) : State := s.setTrunk (s.trunk.offer p.other x)

/-- The telegram that a command brings and its arrival port: of the rows for telegrams, and of bytes that pass the
reception checks. -/
def arrivalOf : Instr → Option (Port × Telegram)
  | .receptionCheckFailure p r => if r.good then r.telegram.map (fun x => (p, x)) else none
  | .passThroughTelegram p t => some (p, t)
  | .unknownKind p t => some (p, t)
  | .position a b => some (a.port, (Body.position b).telegram a)
  | .segment a b => some (a.port, (Body.segment b).telegram a)
  | .withdraw a g id => some (a.port, (Body.withdraw g id).telegram a)
  | .snapshot a => some (a.port, Body.snapshot.telegram a)
  | .enumerate a n => some (a.port, (Body.enumerate n).telegram a)
  | .param a i v => some (a.port, (Body.param i v).telegram a)
  | .tableWrite a b ts => some (a.port, (Body.tableWrite b ts).telegram a)
  | .tableThresholds a b f vs => some (a.port, (Body.tableThresholds b f vs).telegram a)
  | .tableTrim a b c t => some (a.port, (Body.tableTrim b c t).telegram a)
  | .bankVerify a b => some (a.port, (Body.bankVerify b).telegram a)
  | .bankSwap a => some (a.port, Body.bankSwap.telegram a)
  | .enable a => some (a.port, (Body.command 1).telegram a)
  | .disable a => some (a.port, (Body.command 2).telegram a)
  | .release a => some (a.port, (Body.command 3).telegram a)
  | .clearFaults a => some (a.port, (Body.command 4).telegram a)
  | .reset a => some (a.port, (Body.command 5).telegram a)
  | .queryStatus a x y => some (a.port, (Body.query 1 x y).telegram a)
  | .queryWindow a x y => some (a.port, (Body.query 2 x y).telegram a)
  | .querySegment a x y => some (a.port, (Body.query 3 x y).telegram a)
  | .queryTableRow a x y => some (a.port, (Body.query 4 x y).telegram a)
  | .queryThresholds a x y => some (a.port, (Body.query 5 x y).telegram a)
  | .queryFaults a x y => some (a.port, (Body.query 6 x y).telegram a)
  | .querySnapshot a x y => some (a.port, (Body.query 7 x y).telegram a)
  | .querySnapshotPeek a x y => some (a.port, (Body.query 8 x y).telegram a)
  | .queryParam a x y => some (a.port, (Body.query 9 x y).telegram a)
  | .queryCounters a x y => some (a.port, (Body.query 10 x y).telegram a)
  | .malformedCommand a c => some (a.port, (Body.command c).telegram a)
  | .malformedQuery a i x y => some (a.port, (Body.query i x y).telegram a)
  | _ => none

/-! ## Routing (TABLE 8-IV) -/

/-- A good telegram that the node forwards and does not act on. -/
def Trunk.PassesOn (t : Trunk) (p : Port) (x : Telegram) : Prop :=
  (t.headPort = none ∧ ¬(x.dest = 0 ∧ x.kind = 5)) ∨
  (t.headPort = some p ∧ x.dest = 0 ∧ ¬(1 ≤ x.kind.toNat ∧ x.kind.toNat ≤ 5)) ∨
  (t.headPort = some p ∧ x.dest ≠ 0 ∧ x.dest ≠ 32 ∧ t.address ≠ some x.dest.toNat) ∨
  (t.headPort = some p.other ∧ x.dest = 32)

/-- A good telegram that the node drops because it came from the wrong side. -/
def Trunk.DropsWrongSide (t : Trunk) (p : Port) (x : Telegram) : Prop :=
  (t.headPort = some p ∧ x.dest = 32 ∧ t.address ≠ some 32) ∨
  (t.headPort = some p.other ∧ x.dest ≠ 32 ∧ ¬(x.dest = 0 ∧ x.kind = 5))

/-! ## The counters of a port (TABLE 8-VI) -/

/-- RX errors of a port. -/
def Trunk.rxErrors (t : Trunk) : Port → Nat
  | .A => t.rxErrorsA
  | .B => t.rxErrorsB

/-- Transit drops of the queue that feeds a port. -/
def Trunk.drops (t : Trunk) : Port → Nat
  | .A => t.dropsA
  | .B => t.dropsB

/-! ## Admission -/

/-- A well-formed profile as its three bytes carry it (R9). -/
def profileBytesOk (cls hand cant : Byte) : Prop :=
  (cls.toNat = 0 ∧ hand.toNat = 0 ∧ cant.toNat = 0) ∨
  (1 ≤ cls.toNat ∧ cls.toNat ≤ 31 ∧ (hand.toNat = 1 ∨ hand.toNat = 2) ∧ cant.toNat ≤ 100)

/-- A SEGMENT telegram to which no test of R9 applies. -/
def segmentInRange (b : SegmentBody) : Prop :=
  b.length.toNat ≠ 0 ∧ (b.kind.toNat = 0 ∨ b.kind.toNat = 1) ∧ b.start.toNat ≤ 2000000000 ∧
  profileBytesOk b.entryClass b.entryHand b.entryCant ∧
  (b.kind.toNat = 1 → profileBytesOk b.exitClass b.exitHand b.exitCant) ∧
  (b.flags.getLsbD 0 = true → b.tiltLimit.toNat ≤ 100) ∧
  (b.flags.getLsbD 1 = true → 5 ≤ b.rateLimit.toNat ∧ b.rateLimit.toNat ≤ 100)

/-- The segment at the tail of the window. -/
def RouteWindow.tail? (w : RouteWindow) : Option Segment := w.segments.getLast?

/-- The checks of TABLE 1-III that lead to a refusal, each with the checks before it passed. -/
def RouteWindow.Refuses (w : RouteWindow) (b : SegmentBody) : RefusalReason → Prop
  | .malformed => ¬segmentInRange b ∧ ∀ g, segmentRecord b = some g → w.tail? ≠ some g
  | .order => ∃ g tail, segmentRecord b = some g ∧ segmentInRange b ∧ w.tail? = some tail ∧ tail ≠ g ∧ g.id ≤ tail.id
  | .gap => ∃ g tail, segmentRecord b = some g ∧ segmentInRange b ∧ w.tail? = some tail ∧ tail.id < g.id ∧ g.start ≠ tail.stop
  | .mismatch => ∃ g tail, segmentRecord b = some g ∧ segmentInRange b ∧ w.tail? = some tail ∧ tail.id < g.id ∧
      g.start = tail.stop ∧ g.entry ≠ tail.exit
  | .full => ∃ g tail, segmentRecord b = some g ∧ segmentInRange b ∧ w.tail? = some tail ∧ tail.follows g ∧
      64 ≤ w.segments.length

/-- The window after a refusal (R12). -/
def RouteWindow.afterRefusal (w : RouteWindow) (r : RefusalReason) (id : Nat) : RouteWindow :=
  { w with refusals := min 65535 (w.refusals + 1), lastRefusal := some { reason := r, id := id }, reported := true }

/-- The window after a withdrawal (R16): what stays, and the record. -/
def RouteWindow.afterWithdrawal (w : RouteWindow) (kept : List Segment) (r : LastWithdrawal) : RouteWindow :=
  { w with segments := kept, lastWithdrawal := some r }

/-! ## The control period expiry -/

/-- What the demands of an expiry are formed from: the state once the next period has started, a pending swap has
completed and the segments behind the car are retired (R66). -/
def State.expiryView (s : State) : State := s.startPeriod.completeSwap.retire

/-- Both channels are in a state, and the node is ACTIVE. -/
def State.ActivePair (s : State) (x : ChannelState) : Prop :=
  s.node.state = .active ∧ s.tilt.ch1.state = x ∧ s.tilt.ch2.state = x

/-- From a last demand to a goal by one step: the rule of R79. -/
def StepsTo (last goal step new : Int) : Prop :=
  (((goal - last).natAbs : Int) ≤ step → new = goal) ∧
  (step < ((goal - last).natAbs : Int) → last < goal → new = last + step) ∧
  (step < ((goal - last).natAbs : Int) → goal < last → new = last - step)

/-! ## The drive link -/

/-- The link after an exchange has ended: idle, or sending drive 2's frame (R89). -/
def Tilt.ended (t : Tilt) (f : DemandFrame) : Tilt :=
  match f.drive, t.waiting with
  | .CH1, some g => { t with phase := .sending g 100, waiting := none, window := none }
  | _, _ => { t with phase := .idle, waiting := none, window := none }

/-- The state in which a frame of an exchange is judged. -/
def State.ended (s : State) (f : DemandFrame) : State := { s with tilt := s.tilt.ended f }

/-- The seven characters of a good FEEDBACK for an exchange (R92, TABLE 10-VII). -/
def goodFrame (f : DemandFrame) (angle : Half) (lock : LockState) (fault : Byte) : List LineChar :=
  let data := [driveIdOf f.drive, f.sequence] ++ halfBytes angle ++ [lock.code, fault]
  (data ++ [crc8 data]).map LineChar.ofByte

/-- The state after steps (a) and (b) of a good FEEDBACK (R94). -/
def State.afterFeedback (s : State) (f : DemandFrame) (angle : Int) (lock : LockState) (fault : Nat) : State :=
  (s.ended f).setChannel f.drive
    { (s.ended f).channel f.drive with
      misses := 0, feedback := some { measured := min 32767 (s.turn angle), lock := lock, fault := fault } }

/-- The fault code of a good FEEDBACK raises nothing: it is 0, or the code held before (R95). -/
def State.quietCode (s : State) (c : Channel) (fault : Nat) : Prop := fault = 0 ∨ fault = (s.channel c).faultCode

/-- The frame fails CHECK: its check character disagrees, a character had a framing error, or the lock state is none of the
three (TABLE 5-III). -/
def failsFrameCheck (chars : List LineChar) : Prop :=
  (∃ c ∈ chars, c.framingError = true) ∨ crc8 ((chars.take 6).map (·.data)) ≠ ((chars.map (·.data)).getD 6 0) ∨
  lockStateOf ((chars.map (·.data)).getD 4 0) = none

/-- The rows of TABLE 5-III for a frame that ended within the window, each with the checks before it passed. -/
def FrameDefect (f : DemandFrame) (chars : List LineChar) : ExchangeDefect → Prop
  | .noReply => False
  | .short => chars.length < 7
  | .long => 7 < chars.length
  | .check => chars.length = 7 ∧ failsFrameCheck chars
  | .wrongDrive => chars.length = 7 ∧ ¬failsFrameCheck chars ∧ (chars.map (·.data)).getD 0 0 ≠ driveIdOf f.drive
  | .stale => chars.length = 7 ∧ ¬failsFrameCheck chars ∧ (chars.map (·.data)).getD 0 0 = driveIdOf f.drive ∧
      (chars.map (·.data)).getD 1 0 ≠ f.sequence

/-- The state after a missed exchange has ended and been counted (R93). -/
def State.missed (s : State) (f : DemandFrame) (d : ExchangeDefect) : State :=
  let x := s.channel f.drive
  (s.ended f).setChannel f.drive
    { x with
      misses := min 255 (x.misses + 1)
      lateFeedbacks := if d = .stale then min 65535 (x.lateFeedbacks + 1) else x.lateFeedbacks }

/-- A channel that has just entered LOCKING (R102). -/
def State.startsLocking (s : State) (c : Channel) : State :=
  s.setChannel c
    { s.channel c with
      state := .locking, lockTimer := some (s.params.lockTimeout.toNat * 1000), mark := false, persistence := 0 }

/-! ## Demands -/

/-- The raw demand of R76, from the target, cant and cap at L_c and the cant at the channel's look point. -/
def rawOf (target cant cantN cap : Int) : Int := max (-cap) (min cap (target + cant - cantN))

/-- The quotient of an integer by a length, truncated toward zero (0.5.7). -/
def truncated (x : Int) (length : Nat) : Int := if 0 ≤ x then x / length else -(-x / length)

/-! ## Report layouts (R168, TABLE 10-IX) -/

/-- Fields one after another, each given by its size in bytes and its value: the most significant byte first, a signed
value in two's complement. -/
def packed : List (Nat × Int) → List Byte
  | [] => []
  | (n, x) :: rest => (List.range n).map (fun i => BitVec.ofInt 8 (x / 256 ^ (n - 1 - i))) ++ packed rest

/-- A field of a size in bytes. -/
def field (size : Nat) (x : Int) : Nat × Int := (size, x)

/-- A flag or presence byte. -/
def flagField (b : Bool) : Nat × Int := (1, if b then 1 else 0)

/-- Optional fields: a presence byte, and as many bytes of 0 as the sizes say where they are absent. -/
def optionalFields (sizes : List Nat) : Option (List (Nat × Int)) → List (Nat × Int)
  | some fields => (1, 1) :: fields
  | none => (1, 0) :: sizes.map (fun n => (n, 0))

/-- A coded field of one byte, its codes counted from 0 in the order given (TABLE 10-X). -/
def codeField {α : Type} [DecidableEq α] (codes : List α) (x : α) : Nat × Int :=
  (1, codes.findIdx (fun y => decide (y = x)))

/-! ## Frames -/

/-- Every block but the Trunk Unit is unchanged. -/
structure State.SameButTrunk (s t : State) : Prop where
  pins : t.pins = s.pins
  window : t.window = s.window
  tables : t.tables = s.tables
  odometry : t.odometry = s.odometry
  generator : t.generator = s.generator
  tilt : t.tilt = s.tilt
  node : t.node = s.node
  supervision : t.supervision = s.supervision
  freeCount : t.freeCount = s.freeCount
  pending : t.pending = s.pending

/-- The Trunk Unit but for its queues and counters is unchanged. -/
structure Trunk.SameLinks (t u : Trunk) : Prop where
  portA : u.portA = t.portA
  portB : u.portB = t.portB
  headPort : u.headPort = t.headPort
  address : u.address = t.address
  arbiter : u.arbiter = t.arbiter
  rxErrors : u.rxErrorsA = t.rxErrorsA ∧ u.rxErrorsB = t.rxErrorsB
  wrongSide : u.wrongSideA = t.wrongSideA ∧ u.wrongSideB = t.wrongSideB

end Sys2Proof.Machine
end

