-- ==== Sys2Proof/Certificates/Slice0/Obligations.lean ====
section
/-! DEFINITION. The statements for the provers. Where a statement gives the next state as an update of the one before it,
every field that it does not name is unchanged. -/

open Sys2Proof Sys2Proof.Machine

/-! ## The step, the tick and the resets -/

/-- A step with a command in front of the queue is that command on the state with the queue's rest (log entry 1). -/
def Obligations.StepTakesFrontCommand : Prop :=
  ∀ (c : Instr) (rest : List Instr) (s : State), s.pending = c :: rest → step s = exec c { s with pending := rest }

/-- The model's tick (log entries 2 and 18): on an empty queue a microsecond passes for every running timer, or, once
timers have run out, one of their expiries is queued; nothing runs while RST_N is low. The expiries due are those of the
timers that run and have run out (R65, R89, R91, R103, R122, R132). -/
def Obligations.EmptyQueueLetsTimePass : Prop :=
  ∀ s : State, s.pending = [] →
    (s.pins.rstN = false → step s = .next s) ∧
    (s.pins.rstN = true → s.due = [] →
      step s = .next
        { s with
          generator := { s.generator with timer := s.generator.timer - 1 }
          tilt :=
            { s.tilt with
              ch1 := { s.tilt.ch1 with lockTimer := s.tilt.ch1.lockTimer.map (· - 1) }
              ch2 := { s.tilt.ch2 with lockTimer := s.tilt.ch2.lockTimer.map (· - 1) }
              phase :=
                match s.tilt.phase with
                | .sending f n => .sending f (n - 1)
                | other => other
              window := s.tilt.window.map (· - 1) }
          node := { s.node with unlockTimer := s.node.unlockTimer.map (· - 1) }
          supervision := { s.supervision with timer := s.supervision.timer.map (· - 1) } }) ∧
    (s.pins.rstN = true → s.due ≠ [] →
      ∃ c ∈ s.due, step s = .next { s with pending := [c], freeCount := s.freeCount + 1 }) ∧
    (.controlPeriodExpiry ∈ s.due ↔ s.generator.timer = 0) ∧
    (.demandSent ∈ s.due ↔ ∃ f, s.tilt.phase = .sending f 0) ∧
    (.exchangeWindowClose ∈ s.due ↔ (∃ f, s.tilt.phase = .listening f) ∧ s.tilt.window = some 0) ∧
    (∀ c, .lockTimeout c ∈ s.due ↔ (s.channel c).state = .locking ∧ (s.channel c).lockTimer = some 0) ∧
    (.unlockTimeout ∈ s.due ↔ s.node.unlockTimer = some 0) ∧
    (.livenessTimerExpiry ∈ s.due ↔ s.supervision.stage ≠ .lost ∧ s.supervision.timer = some 0) ∧
    (∀ i ∈ s.due, i = .controlPeriodExpiry ∨ i = .demandSent ∨ i = .exchangeWindowClose ∨ (∃ c, i = .lockTimeout c) ∨
      i = .unlockTimeout ∨ i = .livenessTimerExpiry)

/-- Every command completes in every state, since the spec takes every event whole and gives each an effect (R66, R113,
R148, R163), and it leaves the queue and the count of free choices as they were: both are the model's own fields (log
entries 1 and 18). -/
def Obligations.EveryCommandCompletesAndLeavesTheQueue : Prop :=
  ∀ (c : Instr) (s : State), ∃ t, exec c s = .next t ∧ t.pending = s.pending ∧ t.freeCount = s.freeCount

/-- Low RST_N holds every block at its power-on values, no event is taken and no timer runs; the rising edge completes the
reset, starts the control period timer and both lock timers, and reads RATE_SEL (R170). The model's choices: the edge is
taken from any state (log entry 6), commands are consumed while RST_N is low, the queue and the RATE_SEL levels last read
being kept (log entry 7), and the timers show their start values while it is low (log entry 19). -/
def Obligations.ResetPinHoldsTheNode : Prop :=
  ∀ s : State,
    exec .resetAsserted s = .next
      { State.reset with
        pins := { s.pins with rstN := false }, freeCount := s.freeCount, pending := s.pending } ∧
    (s.pins.rstN = false → (∀ c, (∀ x y, c ≠ .powerOnReset x y) → c ≠ .resetAsserted → exec c s = .next s) ∧
      (s.pending = [] → step s = .next s)) ∧
    (∀ x y, exec (.powerOnReset x y) s = .next
      { State.reset with
        pins := { rstN := true, rateSel1 := x, rateSel0 := y }, freeCount := s.freeCount, pending := s.pending }) ∧
    State.reset.generator.timer = 10000 ∧ State.reset.tilt.ch1.lockTimer = some 1500000 ∧
    State.reset.tilt.ch2.lockTimer = some 1500000

/-- The values that a power-on reset leaves (TABLES 1-II, 2-I, 3-I, 4-I, 5-I, 6-I, 6-VII, 7-I and 8-I), the transmit rate
that the strapping gives, DL_DIR (R171) and the training symbols on both lines (R146). The model takes the reset from every
state, with RST_N high or low before it (log entry 6). -/
def Obligations.PowerOnResetGivesTheTableValues : Prop :=
  ∀ (x y : Bool) (s : State), ∃ t, exec (.powerOnReset x y) s = .next t ∧
    t.node.state = .offline ∧ t.node.unlockTimer = none ∧ t.params.carOffsetValid = false ∧
    t.params.bogieOffset1Valid = false ∧ t.params.bogieOffset2Valid = false ∧ t.params.wheelFactorValid = false ∧
    [t.params.tachSense, t.params.leadTime, t.params.period, t.params.authority, t.params.staleLimit, t.params.rollRate,
      t.params.returnRate, t.params.watchInterval, t.params.snapLimit, t.params.discrepancyLimit, t.params.trackBand,
      t.params.trackPersist, t.params.centreBand, t.params.lockTimeout, t.params.feedbackMissLimit,
      t.params.phaseFaultLimit] = [0, 800, 10, 80, 40, 40, 20, 250, 20, 4, 15, 20, 3, 1500, 3, 16] ∧
    (∀ p, (t.trunk.port p).link = .down ∧ (t.trunk.port p).rate = none ∧ (t.trunk.port p).trainCount = 0 ∧
      t.trunk.queue p = [] ∧ t.trunk.rxErrors p = 0 ∧ t.trunk.drops p = 0) ∧
    t.trunk.wrongSideA = 0 ∧ t.trunk.wrongSideB = 0 ∧ t.trunk.ownDrops = 0 ∧ t.trunk.own = [] ∧ t.trunk.arbiter = 0 ∧
    t.trunk.headPort = none ∧ t.trunk.address = none ∧
    t.window.segments = [] ∧ t.window.lastRefusal = none ∧ t.window.lastWithdrawal = none ∧ t.window.refusals = 0 ∧
    t.window.reported = false ∧ t.window.runouts = 0 ∧
    t.tables.active = .A ∧ t.tables.swapPending = false ∧
    (∀ b, (t.tables.bank b).state = .empty ∧ (t.tables.bank b).thresholds = List.replicate 15 0 ∧
      (t.tables.bank b).rows = List.replicate 32 (List.replicate 16 0)) ∧
    t.odometry = Odometry.initial ∧ t.odometry.phase = none ∧ t.odometry.pNode = 0 ∧ t.odometry.aligned = false ∧
    t.odometry.lastSequence = none ∧ t.odometry.speed = 0 ∧ t.odometry.direction = .forward ∧
    t.generator.timer = 10000 ∧ t.generator.period = 10 ∧ t.generator.runout = false ∧
    (∀ c, t.lastDemand c = 0 ∧ (t.channel c).state = .locking ∧ (t.channel c).lockTimer = some 1500000 ∧
      (t.channel c).feedback = none ∧ (t.channel c).sequence = 0 ∧ (t.channel c).misses = 0) ∧
    t.tilt.phase = .idle ∧ t.tilt.window = none ∧
    t.supervision.stage = .lost ∧ t.supervision.timer = none ∧ t.supervision.faults = [] ∧
    t.supervision.overflow = false ∧ t.supervision.overflowCount = 0 ∧ t.supervision.sequence = 0 ∧
    t.supervision.snapshot = none ∧ t.supervision.ignoredSnapshots = 0 ∧
    t.transmitRate = (if x = false ∧ y = true then .kbit2500 else if x = true ∧ y = false then .kbit5000 else .kbit1250) ∧
    (∀ p, t.lineOutput p = .training t.transmitRate) ∧ t.dlDir = false

/-! ## The Trunk Unit -/

/-- SIGNAL_APPEARS takes a DOWN port to TRAINING with no symbols counted; a port in TRAINING or UP is unchanged (R146). -/
def Obligations.SignalStartsTraining : Prop :=
  ∀ (p : Port) (s : State), s.pins.rstN = true →
    ((s.trunk.port p).link = .down →
      exec (.signalAppears p) s = .next
        { s with
          trunk := s.trunk.setPort p
            { s.trunk.port p with link := .training, trainCount := 0, trainRate := none } }) ∧
    ((s.trunk.port p).link ≠ .down → exec (.signalAppears p) s = .next s)

/-- PORT_UP counts one symbol after the other by R146, takes the port UP at the sixteenth good one in a row of one rate,
and moves no port that is not TRAINING. -/
def Obligations.TrainingCountsSymbols : Prop :=
  ∀ (p : Port) (s : State), s.pins.rstN = true →
    ((s.trunk.port p).link = .training → (s.trunk.port p).trainCount < 16 → ∀ x : TrainingSymbol,
      exec (.portUp p [x]) s = .next
        { s with
          trunk := s.trunk.setPort p
            (match x with
            | none => { s.trunk.port p with trainCount := 0, trainRate := none }
            | some r =>
              if (s.trunk.port p).trainRate = some r then
                if (s.trunk.port p).trainCount = 15 then
                  { s.trunk.port p with link := .up, rate := some r, trainCount := 16 }
                else { s.trunk.port p with trainCount := (s.trunk.port p).trainCount + 1 }
              else { s.trunk.port p with trainCount := 1, trainRate := some r }) }) ∧
    ((s.trunk.port p).link ≠ .training → ∀ xs, exec (.portUp p xs) s = .next s) ∧
    (∀ xs ys, ∃ t, exec (.portUp p xs) s = .next t ∧ exec (.portUp p (xs ++ ys)) s = exec (.portUp p ys) t)

/-- LOSS_OF_SIGNAL and SYMBOL_ERROR_LIMIT: what a port that leaves UP discards and counts (R146, R147), and what stays. The
arbiter count becomes 0 whichever port it is: the model's reading (log entry 10). -/
def Obligations.LinkLossDiscardsAndCounts : Prop :=
  ∀ (p : Port) (s : State) (c : Instr), s.pins.rstN = true → c = .lossOfSignal p ∨ c = .symbolErrorLimit p →
    ((s.trunk.port p).link = .up → s.trunk.Law →
      ∃ t, exec c s = .next t ∧ s.SameButTrunk t ∧
        t.trunk.port p = PortState.initial ∧ t.trunk.port p.other = s.trunk.port p.other ∧
        t.trunk.headPort = s.trunk.headPort ∧ t.trunk.address = s.trunk.address ∧ t.trunk.arbiter = 0 ∧
        t.trunk.queue p = [] ∧ t.trunk.queue p.other = s.trunk.queue p.other ∧
        t.trunk.own = (if s.trunk.headPort = some p then [] else s.trunk.own) ∧
        t.trunk.rxErrors p =
          min 65535 (s.trunk.rxErrors p + if (s.trunk.port p).receiving.isSome then 1 else 0) ∧
        t.trunk.rxErrors p.other = s.trunk.rxErrors p.other ∧
        t.trunk.drops p =
          min 65535 (s.trunk.drops p + (s.trunk.queue p).length +
            if (s.trunk.port p).sending.map Prod.snd = some .transit then 1 else 0) ∧
        t.trunk.drops p.other = s.trunk.drops p.other ∧
        t.trunk.ownDrops =
          min 65535 (s.trunk.ownDrops + (if s.trunk.headPort = some p then s.trunk.own.length else 0) +
            if (s.trunk.port p).sending.map Prod.snd = some .own then 1 else 0) ∧
        t.trunk.wrongSideA = s.trunk.wrongSideA ∧ t.trunk.wrongSideB = s.trunk.wrongSideB) ∧
    ((s.trunk.port p).link = .training →
      exec c s = .next { s with trunk := s.trunk.setPort p PortState.initial }) ∧
    ((s.trunk.port p).link = .down → exec c s = .next s)

/-- START_DELIMITER_RECEIVED begins a telegram on an UP port (R148), also where one is being received: the model's choice
(log entry 8); TRANSIT_TRANSMIT_START sends the oldest transit telegram of a free UP port that is not the head port, taking
it from its queue; TRANSMISSION_END frees the transmitter (R151, R153). A port that is not UP sends training symbols at the
transmit rate, and one that is UP its telegram or idle fill (R146); the rate stays until the next power-on reset (R171). -/
def Obligations.PortEventsMoveOnlyTheirPort : Prop :=
  (∀ (p : Port) (s : State), s.pins.rstN = true →
    ((s.trunk.port p).link = .up →
      exec (.startDelimiterReceived p) s = .next
        { s with trunk := s.trunk.setPort p { s.trunk.port p with receiving := some [] } }) ∧
    ((s.trunk.port p).link ≠ .up → exec (.startDelimiterReceived p) s = .next s) ∧
    (∀ x rest, s.trunk.headPort ≠ some p → (s.trunk.port p).link = .up → (s.trunk.port p).sending = none →
      s.trunk.queue p = x :: rest →
      exec (.transitTransmitStart p) s = .next
        { s with
          trunk := (s.trunk.setQueue p rest).setPort p { s.trunk.port p with sending := some (x, .transit) } }) ∧
    (s.trunk.headPort = some p ∨ (s.trunk.port p).link ≠ .up ∨ (s.trunk.port p).sending ≠ none ∨ s.trunk.queue p = [] →
      exec (.transitTransmitStart p) s = .next s) ∧
    exec (.transmissionEnd p) s = .next
      { s with trunk := s.trunk.setPort p { s.trunk.port p with sending := none } }) ∧
  (∀ (p : Port) (s : State),
    ((s.trunk.port p).link ≠ .up → s.lineOutput p = .training s.transmitRate) ∧
    ((s.trunk.port p).link = .up → (s.trunk.port p).sending = none → s.lineOutput p = .idleFill) ∧
    (∀ x q, (s.trunk.port p).link = .up → (s.trunk.port p).sending = some (x, q) → s.lineOutput p = .telegram x)) ∧
  ∀ s t : State, step s = .next t → (∀ x y rest, s.pending ≠ .powerOnReset x y :: rest) →
    t.transmitRate = s.transmitRate

/-- ARBITER_CHOICE: the four cases of R153, and no choice where the head port is unknown or not UP, where its transmitter is
not free, or where nothing waits. -/
def Obligations.ArbiterSharesTheHeadTransmitter : Prop :=
  ∀ s : State, s.pins.rstN = true →
    (∀ h, s.trunk.headPort = some h → (s.trunk.port h).link = .up → (s.trunk.port h).sending = none →
      (∀ x rest, s.trunk.own = [] → s.trunk.queue h = x :: rest →
        exec .arbiterChoice s = .next
          { s with
            trunk := { (s.trunk.setQueue h rest).setPort h { s.trunk.port h with sending := some (x, .transit) } with
              arbiter := 0 } }) ∧
      (∀ y own, s.trunk.own = y :: own → s.trunk.queue h = [] →
        exec .arbiterChoice s = .next
          { s with
            trunk := { s.trunk.setPort h { s.trunk.port h with sending := some (y, .own) } with
              own := own, arbiter := 0 } }) ∧
      (∀ x rest y own, s.trunk.own = y :: own → s.trunk.queue h = x :: rest → s.trunk.arbiter < 4 →
        exec .arbiterChoice s = .next
          { s with
            trunk := { (s.trunk.setQueue h rest).setPort h { s.trunk.port h with sending := some (x, .transit) } with
              arbiter := s.trunk.arbiter + 1 } }) ∧
      (∀ x rest y own, s.trunk.own = y :: own → s.trunk.queue h = x :: rest → s.trunk.arbiter = 4 →
        exec .arbiterChoice s = .next
          { s with
            trunk := { s.trunk.setPort h { s.trunk.port h with sending := some (y, .own) } with
              own := own, arbiter := 0 } }) ∧
      (s.trunk.own = [] → s.trunk.queue h = [] → exec .arbiterChoice s = .next s)) ∧
    (s.trunk.headPort = none → exec .arbiterChoice s = .next s) ∧
    (∀ h, s.trunk.headPort = some h → (s.trunk.port h).link ≠ .up ∨ (s.trunk.port h).sending ≠ none →
      exec .arbiterChoice s = .next s)

/-- R151 and R152: a transit queue takes a telegram while its port is UP and it holds fewer than 4, the own queue while the
head port is known and UP and it holds fewer than 8; otherwise the telegram is dropped and counted. -/
def Obligations.QueuesTakeOrDrop : Prop :=
  ∀ (t : Trunk) (p : Port) (x : Telegram),
    ((t.port p).link = .up → (t.queue p).length < 4 → t.offer p x = t.setQueue p (t.queue p ++ [x])) ∧
    ((t.port p).link ≠ .up ∨ 4 ≤ (t.queue p).length →
      (t.offer p x).drops p = min 65535 (t.drops p + 1) ∧ (t.offer p x).drops p.other = t.drops p.other ∧
      (t.offer p x).queue p = t.queue p ∧ (t.offer p x).queue p.other = t.queue p.other ∧
      (t.offer p x).own = t.own ∧ t.SameLinks (t.offer p x) ∧ (t.offer p x).ownDrops = t.ownDrops) ∧
    (t.headPort = some p → (t.port p).link = .up → t.own.length < 8 → t.placeOwn x = { t with own := t.own ++ [x] }) ∧
    (t.headPort = none ∨ (t.headPort = some p ∧ ((t.port p).link ≠ .up ∨ 8 ≤ t.own.length)) →
      t.placeOwn x = { t with ownDrops := min 65535 (t.ownDrops + 1) })

/-- PASS_THROUGH_TELEGRAM: the rows of TABLE 8-IV on which the node does not act (R149), and the telegrams that no UP port
takes or that fail LENGTH (R148). -/
def Obligations.PassingTelegramsAreRouted : Prop :=
  ∀ (p : Port) (x : Telegram) (s : State), s.pins.rstN = true →
    ((s.trunk.port p).link = .up → x.lengthOk = true → s.trunk.PassesOn p x →
      exec (.passThroughTelegram p x) s = .next { s with trunk := s.passedOn p x }) ∧
    ((s.trunk.port p).link = .up → x.lengthOk = true → s.trunk.DropsWrongSide p x →
      exec (.passThroughTelegram p x) s = .next { s with trunk := (s.trunk.endReceiving p).countWrongSide p }) ∧
    ((s.trunk.port p).link = .up → x.lengthOk = false →
      exec (.passThroughTelegram p x) s = .next { s with trunk := (s.trunk.endReceiving p).countRxError p }) ∧
    ((s.trunk.port p).link ≠ .up → exec (.passThroughTelegram p x) s = .next s)

/-- UNKNOWN_KIND: a telegram of another kind addressed to this node gets one ACK that echoes its kind and tag with result
UNKNOWN_KIND and no detail, and has no other effect (R150). -/
def Obligations.UnknownKindIsAnswered : Prop :=
  ∀ (p : Port) (x : Telegram) (s : State), s.Live p → s.trunk.headPort = some p →
    s.trunk.address = some x.dest.toNat → 1 ≤ x.dest.toNat ∧ x.dest.toNat ≤ 16 →
    ¬(16 ≤ x.kind.toNat ∧ x.kind.toNat ≤ 23) → x.lengthOk = true →
    exec (.unknownKind p x) s = .next
      { s with
        trunk := (s.trunk.endReceiving p).placeOwn
          { kind := 32, dest := 32, source := x.dest, tag := x.tag, payload := [x.kind, 9, 0, 0] } }

/-- RECEPTION_CHECK_FAILURE: bytes that fail SYMBOL, LENGTH or CHECK are discarded and counted, bytes that pass are the
telegram they spell, and a port that is not UP takes none (R148). The three checks are those of TABLE 8-III; that bytes too
few for a header fail LENGTH is the model's reading (log entry 12). -/
def Obligations.FailedReceptionIsCounted : Prop :=
  (∀ r : Received,
    r.failsSymbol = r.symbolError ∧
    (∀ kind dest source tag1 tag0 len rest, r.bytes = [kind, dest, source, tag1, tag0, len] ++ rest →
      (r.failsLength = true ↔ permittedLength kind len.toNat = false ∨ rest.length ≠ len.toNat + 2)) ∧
    (r.bytes.length < 6 → r.failsLength = true) ∧
    ∀ covered c1 c0, r.bytes = covered ++ [c1, c0] →
      (r.failsCheck = true ↔ c1.toNat * 256 + c0.toNat ≠ (crc16 covered).toNat)) ∧
  ∀ (p : Port) (r : Received) (s : State), s.pins.rstN = true →
    ((s.trunk.port p).link = .up → r.failsSymbol = true ∨ r.failsLength = true ∨ r.failsCheck = true →
      exec (.receptionCheckFailure p r) s = .next { s with trunk := (s.trunk.endReceiving p).countRxError p }) ∧
    (r.failsSymbol = false → r.failsLength = false → r.failsCheck = false →
      ∃ x, r.telegram = some x ∧ exec (.receptionCheckFailure p r) s = exec (.passThroughTelegram p x) s) ∧
    ((s.trunk.port p).link ≠ .up → exec (.receptionCheckFailure p r) s = .next s)

/-- The bytes of every telegram of a permitted length pass the reception checks and spell that telegram, and the payload
of every telegram the node acts on reads back as what it says (R166, R167). The permitted lengths are those of TABLE 10-II
and at most 40, the CRC is R166's, bit by bit, the header is that of TABLE 10-I, and the kinds and payloads are those of
TABLES 8-II and 10-II to 10-IV, field by field. -/
def Obligations.TelegramBytesReadBack : Prop :=
  (∀ t : Telegram, t.lengthOk = true →
    Received.good { symbolError := false, bytes := t.bytes } = true ∧
    Received.telegram { symbolError := false, bytes := t.bytes } = some t) ∧
  (∀ (b : Body) (a : Arrival), b.wf = true → (b.telegram a).lengthOk = true ∧ (b.telegram a).body = some b) ∧
  (∀ t : Telegram, t.lengthOk = permittedLength t.kind t.payload.length) ∧
  (∀ (kind : Byte) (n : Nat), permittedLength kind n = true ↔ n ≤ 40 ∧
    ∀ row ∈ [(1, [10]), (2, [18]), (3, [3]), (4, [0]), (5, [1]), (16, [5]), (17, [4, 7, 10, 13, 16, 19, 22]),
      (18, [4, 6, 8, 10, 12, 14, 16, 18, 20, 22, 24, 26, 28, 30, 32]), (19, [3]), (20, [1]), (21, [0]), (22, [1]),
      (23, [3]), (32, [4]), (33, (List.range 37).map (fun k => 4 + k)), (34, [4])],
      row.1 = kind.toNat → n ∈ row.2) ∧
  (crc16 [49, 50, 51, 52, 53, 54, 55, 56, 57] = 0x29B1#16 ∧ crc16 [] = 0xFFFF#16 ∧
    ∀ (bytes : List Byte) (b : Byte), crc16 (bytes ++ [b]) =
      [7, 6, 5, 4, 3, 2, 1, 0].foldl
        (fun (reg : Half) (k : Nat) => if b.getLsbD k = reg.getLsbD 15 then reg <<< 1 else (reg <<< 1) ^^^ 0x1021#16)
        (crc16 bytes)) ∧
  (∀ t : Telegram,
    t.covered =
      packed [field 1 t.kind.toNat, field 1 t.dest.toNat, field 1 t.source.toNat, field 2 t.tag.toNat,
        field 1 t.payload.length] ++ t.payload ∧
    t.bytes = t.covered ++ packed [field 2 (crc16 t.covered).toNat]) ∧
  ∀ (b : Body) (a : Arrival),
    let holds := fun (kind : Byte) (fields : List (Nat × Int)) =>
      b.telegram a = { kind := kind, dest := a.dest, source := a.source, tag := a.tag, payload := packed fields }
    match b with
    | .position x =>
      holds 1 [field 2 x.sequence.toNat, field 4 x.distance.toNat, field 2 x.speed.toNat, field 1 x.direction.toNat,
        field 1 x.flags.toNat]
    | .segment x =>
      holds 2 [field 2 x.id.toNat, field 4 x.start.toNat, field 2 x.length.toNat, field 1 x.kind.toNat,
        field 1 x.entryClass.toNat, field 1 x.entryHand.toNat, field 1 x.entryCant.toNat, field 1 x.exitClass.toNat,
        field 1 x.exitHand.toNat, field 1 x.exitCant.toNat, field 1 x.tiltLimit.toNat, field 1 x.rateLimit.toNat,
        field 1 x.flags.toNat]
    | .withdraw granularity id => holds 3 [field 1 granularity.toNat, field 2 id.toNat]
    | .snapshot => holds 4 []
    | .enumerate next => holds 5 [field 1 next.toNat]
    | .param ident value => holds 16 [field 1 ident.toNat, field 4 value.toInt]
    | .tableWrite bank triplets =>
      holds 17 (field 1 bank.toNat ::
        triplets.flatMap (fun t => [field 1 t.cls.toNat, field 1 t.band.toNat, field 1 t.value.toNat]))
    | .tableThresholds bank first values =>
      holds 18 ([field 1 bank.toNat, field 1 first.toNat] ++ values.map (fun v => field 2 v.toNat))
    | .tableTrim bank cls trim => holds 19 [field 1 bank.toNat, field 1 cls.toNat, field 1 trim.toInt]
    | .bankVerify bank => holds 20 [field 1 bank.toNat]
    | .bankSwap => holds 21 []
    | .command code => holds 22 [field 1 code.toNat]
    | .query item arg1 arg2 => holds 23 [field 1 item.toNat, field 1 arg1.toNat, field 1 arg2.toNat]

/-- Every row that brings a telegram acts as the telegram's bytes and routing say, whatever its row (log entry 11). -/
def Obligations.TelegramRowsActAsTheirTelegram : Prop :=
  ∀ (c : Instr) (p : Port) (x : Telegram) (s : State), arrivalOf c = some (p, x) →
    exec c s = exec (.passThroughTelegram p x) s

/-- The law of the Trunk Unit is kept by every step: the port states, the capacities of 4 and 8, at most one ALERT, the
arbiter count to 4 and the ranges of the counters (R145, R151, R153, R159). -/
def Obligations.StepsKeepTheTrunkLaw : Prop :=
  ∀ s t : State, step s = .next t → s.trunk.Law → t.trunk.Law

/-! ## The Route Window -/

/-- SEGMENT: a repeat of the tail changes nothing, and a segment that passes every check of TABLE 1-III is appended with
the refusal-reported flag cleared; both are forwarded (R8, R10, R11). -/
def Obligations.SegmentIsAppendedOrRepeated : Prop :=
  ∀ (a : Arrival) (b : SegmentBody) (s : State) (g : Segment), s.Broadcasts a → segmentRecord b = some g →
    (s.window.tail? = some g →
      exec (.segment a b) s = .next { s with trunk := s.forwarded a (.segment b) }) ∧
    (segmentInRange b → (∀ tail, s.window.tail? = some tail → tail.follows g) → s.window.segments.length < 64 →
      exec (.segment a b) s = .next
        { s with
          window := { s.window with segments := s.window.segments ++ [g], reported := false }
          trunk := s.forwarded a (.segment b) })

/-- The record of a SEGMENT telegram holds its fields, and it is a well-formed record exactly when no test of R9 applies
to the telegram. -/
def Obligations.SegmentFieldsDecideMalformed : Prop :=
  ∀ b : SegmentBody,
    (segmentInRange b ↔ ∃ g, segmentRecord b = some g ∧ g.wf = true) ∧
    ∀ g, segmentRecord b = some g →
      g.id = b.id.toNat ∧ g.start = b.start.toNat ∧ g.length = b.length.toNat ∧ g.stop = b.start.toNat + b.length.toNat ∧
      (g.kind = .constant ↔ b.kind = 0) ∧ g.entry.cls = b.entryClass.toNat ∧ g.entry.hand.code = b.entryHand ∧
      g.entry.cant = b.entryCant.toNat ∧
      (b.kind = 1 → g.exit.cls = b.exitClass.toNat ∧ g.exit.hand.code = b.exitHand ∧ g.exit.cant = b.exitCant.toNat) ∧
      (b.kind = 0 → g.exit = g.entry) ∧
      g.tiltLimit = (if b.flags.getLsbD 0 then some b.tiltLimit.toNat else none) ∧
      g.rateLimit = (if b.flags.getLsbD 1 then some b.rateLimit.toNat else none) ∧ g.inhibit = b.flags.getLsbD 2

/-- SEGMENT refused: the first check of TABLE 1-III that applies gives the reason; the refusal is counted and recorded, and
is raised as a WINDOW fault unless one is already reported; the telegram is forwarded all the same (R8 to R12). -/
def Obligations.SegmentIsRefused : Prop :=
  ∀ (a : Arrival) (b : SegmentBody) (s : State) (r : RefusalReason), s.Broadcasts a → s.window.Refuses b r →
    exec (.segment a b) s = .next
      ((if s.window.reported then
          { s.taken a.port with window := s.window.afterRefusal r b.id.toNat }
        else
          { s.taken a.port with window := s.window.afterRefusal r b.id.toNat }.raise .window none r.code).thenForwards
        a.port ((Body.segment b).telegram a))

/-- WITHDRAW: the rows of TABLE 1-IV with the record of R16, on a window whose ids increase strictly; a granularity of no
code is forwarded and not acted on (R14). -/
def Obligations.WithdrawRemovesByTable : Prop :=
  ∀ (a : Arrival) (gran : Byte) (id : Half) (s : State), s.Broadcasts a → linked s.window.segments →
    let w := s.window
    let n := id.toNat
    let after := fun (kept : List Segment) (requested performed : Granularity) (shown : Option Nat) (removed : Nat) =>
      Host.Outcome.next
        { s with
          window := w.afterWithdrawal kept
            { requested := requested, id := shown, performed := performed, removed := removed }
          trunk := s.forwarded a (.withdraw gran id) }
    (gran = 3 → exec (.withdraw a gran id) s = after [] .all .all none w.segments.length) ∧
    (gran = 2 → (∀ g ∈ w.segments, g.id < n) →
      exec (.withdraw a gran id) s = after w.segments .from .none (some n) 0) ∧
    (gran = 2 → w.segments ≠ [] → (∀ g ∈ w.segments, n ≤ g.id) →
      exec (.withdraw a gran id) s = after [] .from .all (some n) w.segments.length) ∧
    (gran = 2 → (∃ g ∈ w.segments, n ≤ g.id) → (∃ g ∈ w.segments, g.id < n) →
      exec (.withdraw a gran id) s =
        after (w.segments.filter (fun g => decide (g.id < n))) .from .from (some n)
          (w.segments.countP (fun g => decide (n ≤ g.id)))) ∧
    (gran = 1 → (∃ tail, w.tail? = some tail ∧ tail.id = n) →
      exec (.withdraw a gran id) s = after w.segments.dropLast .one .one (some n) 1) ∧
    (gran = 1 → (∃ g ∈ w.segments, g.id = n) → (∀ tail, w.tail? = some tail → tail.id ≠ n) →
      exec (.withdraw a gran id) s =
        after (w.segments.filter (fun g => decide (g.id < n))) .one .from (some n)
          (w.segments.countP (fun g => decide (n ≤ g.id)))) ∧
    (gran = 1 → (∀ g ∈ w.segments, g.id ≠ n) →
      exec (.withdraw a gran id) s = after w.segments .one .none (some n) 0) ∧
    (gran ≠ 1 → gran ≠ 2 → gran ≠ 3 →
      exec (.withdraw a gran id) s = .next { s with trunk := s.forwarded a (.withdraw gran id) })

/-- In a contiguous window a point is covered exactly when it lies from the head's start up to but not including the
tail's end, and the segment selected is the one that covers it (R20). -/
def Obligations.WindowCoversOneInterval : Prop :=
  ∀ (w : RouteWindow) (x : Int), w.Law →
    (w.covered x = true ↔
      ∃ head tail, w.segments.head? = some head ∧ w.segments.getLast? = some tail ∧
        (head.start : Int) ≤ x ∧ x < (tail.start + tail.length : Nat)) ∧
    ∀ g, w.at x = some g ↔ g ∈ w.segments ∧ (g.start : Int) ≤ x ∧ x < (g.start + g.length : Nat)

/-- A bank's band for a speed is the number of its thresholds at or below the speed, and where they ascend it is the interval
that the speed falls in (R28). Along a segment the target and the cant are the entry profile's signed values, in a SPIRAL
plus the exact product of the difference and the offset divided by the length, truncated toward zero; they start at the
entry profile's values and stay between those of the two profiles (R1, R21, R22). -/
def Obligations.SegmentValuesLieBetweenItsProfiles : Prop :=
  (∀ (b : Bank) (speed : Nat),
    b.band speed = (b.thresholds.filter (fun t => decide (t ≤ speed))).length ∧
    (b.Law → b.band speed ≤ 15) ∧
    (b.Law → b.state = .verified →
      (speed < b.thresholds.getD 0 0 → b.band speed = 0) ∧
      (∀ i, i < 14 → b.thresholds.getD i 0 ≤ speed → speed < b.thresholds.getD (i + 1) 0 → b.band speed = i + 1) ∧
      (b.thresholds.getD 14 0 ≤ speed → b.band speed = 15)) ∧
    ∀ cls band row e, b.rows[cls]? = some row → row[band]? = some e → b.entry cls band = e) ∧
  ∀ (g : Segment) (b : Bank) (band : Nat) (x : Int), (g.start : Int) ≤ x → x < (g.start + g.length : Nat) →
    let signed := fun (h : Hand) (n : Nat) =>
      match h with
      | .none => (0 : Int)
      | .left => (n : Int)
      | .right => -(n : Int)
    let target := fun (p : Profile) => signed p.hand (b.entry p.cls band)
    let cant := fun (p : Profile) => signed p.hand p.cant
    (g.kind = .constant → g.target b band x = target g.entry ∧ g.cantAt x = cant g.entry) ∧
    (∀ e, g.kind = .spiral e →
      g.target b band x =
        target g.entry + truncated ((target e - target g.entry) * (x - g.start)) g.length ∧
      g.cantAt x = cant g.entry + truncated ((cant e - cant g.entry) * (x - g.start)) g.length) ∧
    g.target b band g.start = target g.entry ∧ g.cantAt g.start = cant g.entry ∧
    min (target g.entry) (target g.exit) ≤ g.target b band x ∧
    g.target b band x ≤ max (target g.entry) (target g.exit) ∧
    min (cant g.entry) (cant g.exit) ≤ g.cantAt x ∧ g.cantAt x ≤ max (cant g.entry) (cant g.exit)

/-- The laws of the route window are kept by every step: at most 64 well-formed segments, ids increasing strictly, each
starting where its predecessor ends and with its exit profile (R3). -/
def Obligations.StepsKeepTheWindowLaw : Prop :=
  ∀ s t : State, step s = .next t → s.window.Law → t.window.Law

/-! ## The Schedule Tables -/

/-- Checks 1 to 3 of TABLE 2-II on the four requests that name a bank: MALFORMED, BUSY, ACTIVE_BANK, in this order, and
nothing changes but the ACK placed (R31). -/
def Obligations.TableRequestsAreRefusedInOrder : Prop :=
  ∀ (a : Arrival) (bank : Byte) (s : State) (c : Instr) (kind : Byte), s.Delivers a →
    (∃ ts, c = .tableWrite a bank ts ∧ kind = 17 ∧ 1 ≤ ts.length ∧ ts.length ≤ 7) ∨
    (∃ f vs, c = .tableThresholds a bank f vs ∧ kind = 18 ∧ 1 ≤ vs.length ∧ vs.length ≤ 15) ∨
    (∃ cls trim, c = .tableTrim a bank cls trim ∧ kind = 19) ∨ (c = .bankVerify a bank ∧ kind = 20) →
    (bank ≠ 1 → bank ≠ 2 → exec c s = .next { s with trunk := s.acked a kind 8 none }) ∧
    (bank = 1 ∨ bank = 2 → s.tables.swapPending = true → exec c s = .next { s with trunk := s.acked a kind 3 none }) ∧
    (bank = s.tables.active.code → s.tables.swapPending = false →
      exec c s = .next { s with trunk := s.acked a kind 6 none })

/-- R32: a TABLE WRITE on the inactive bank with no swap pending is refused RANGE with the position of its first triplet
out of range, or is written in telegram order; an entry not named keeps its value, and the bank is LOADING. -/
def Obligations.TableWriteWritesTriplets : Prop :=
  ∀ (a : Arrival) (b : BankName) (ts : List Triplet) (s : State), s.Delivers a → 1 ≤ ts.length → ts.length ≤ 7 →
    s.tables.swapPending = false → b ≠ s.tables.active → (s.tables.bank b).Law →
    (∀ before t after, ts = before ++ t :: after →
      (∀ u ∈ before, u.cls.toNat ≤ 31 ∧ u.band.toNat ≤ 15 ∧ u.value.toNat ≤ 100) →
      31 < t.cls.toNat ∨ 15 < t.band.toNat ∨ 100 < t.value.toNat →
      exec (.tableWrite a b.code ts) s = .next { s with trunk := s.acked a 17 4 (some (before.length + 1)) }) ∧
    ((∀ u ∈ ts, u.cls.toNat ≤ 31 ∧ u.band.toNat ≤ 15 ∧ u.value.toNat ≤ 100) →
      ∃ x : Bank, exec (.tableWrite a b.code ts) s = .next
        { s with tables := s.tables.setBank b x, trunk := s.acked a 17 0 none } ∧
        x.state = .loading ∧ x.thresholds = (s.tables.bank b).thresholds ∧
        (∀ before t after, ts = before ++ t :: after → (∀ u ∈ after, ¬(u.cls = t.cls ∧ u.band = t.band)) →
          x.entry t.cls.toNat t.band.toNat = t.value.toNat) ∧
        ∀ cls band, (∀ u ∈ ts, ¬(u.cls.toNat = cls ∧ u.band.toNat = band)) →
          x.entry cls band = (s.tables.bank b).entry cls band)

/-- R33: a TABLE THRESHOLDS on the inactive bank with no swap pending is refused RANGE with detail 0 for its indices, then
with the position of its first value above 10,000, or is written upward from the first index; the bank is LOADING. -/
def Obligations.TableThresholdsWritesValues : Prop :=
  ∀ (a : Arrival) (b : BankName) (first : Byte) (vs : List Half) (s : State), s.Delivers a → 1 ≤ vs.length →
    vs.length ≤ 15 → s.tables.swapPending = false → b ≠ s.tables.active → (s.tables.bank b).Law →
    (14 < first.toNat ∨ 15 < first.toNat + vs.length →
      exec (.tableThresholds a b.code first vs) s = .next { s with trunk := s.acked a 18 4 (some 0) }) ∧
    (first.toNat ≤ 14 → first.toNat + vs.length ≤ 15 → ∀ before v after, vs = before ++ v :: after →
      (∀ u ∈ before, u.toNat ≤ 10000) → 10000 < v.toNat →
      exec (.tableThresholds a b.code first vs) s = .next
        { s with trunk := s.acked a 18 4 (some (before.length + 1)) }) ∧
    (first.toNat ≤ 14 → first.toNat + vs.length ≤ 15 → (∀ u ∈ vs, u.toNat ≤ 10000) →
      ∃ x : Bank, exec (.tableThresholds a b.code first vs) s = .next
        { s with tables := s.tables.setBank b x, trunk := s.acked a 18 0 none } ∧
        x.state = .loading ∧ x.rows = (s.tables.bank b).rows ∧ x.thresholds.length = 15 ∧
        ∀ i, i < 15 →
          x.thresholds[i]? =
            if first.toNat ≤ i ∧ i < first.toNat + vs.length then (vs[i - first.toNat]?).map (·.toNat)
            else (s.tables.bank b).thresholds[i]?)

/-- R34: a TABLE TRIM on the inactive bank with no swap pending is refused RANGE with detail 1 for its class and then 2
for its trim, or adds the trim to each entry of the row, stored within 0 to 100; the bank is LOADING. -/
def Obligations.TableTrimAdjustsOneRow : Prop :=
  ∀ (a : Arrival) (b : BankName) (cls trim : Byte) (s : State), s.Delivers a →
    s.tables.swapPending = false → b ≠ s.tables.active → (s.tables.bank b).Law →
    (cls.toNat = 0 ∨ 31 < cls.toNat →
      exec (.tableTrim a b.code cls trim) s = .next { s with trunk := s.acked a 19 4 (some 1) }) ∧
    (1 ≤ cls.toNat → cls.toNat ≤ 31 → trim.toInt < -100 ∨ 100 < trim.toInt →
      exec (.tableTrim a b.code cls trim) s = .next { s with trunk := s.acked a 19 4 (some 2) }) ∧
    (1 ≤ cls.toNat → cls.toNat ≤ 31 → -100 ≤ trim.toInt → trim.toInt ≤ 100 →
      ∃ x : Bank, exec (.tableTrim a b.code cls trim) s = .next
        { s with tables := s.tables.setBank b x, trunk := s.acked a 19 0 none } ∧
        x.state = .loading ∧ x.thresholds = (s.tables.bank b).thresholds ∧
        (∀ band, band < 16 → ∃ sum : Int, sum = ((s.tables.bank b).entry cls.toNat band : Int) + trim.toInt ∧
          (sum < 0 → x.entry cls.toNat band = 0) ∧ (100 < sum → x.entry cls.toNat band = 100) ∧
          (0 ≤ sum → sum ≤ 100 → (x.entry cls.toNat band : Int) = sum)) ∧
        ∀ c band, c ≠ cls.toNat → x.entry c band = (s.tables.bank b).entry c band)

/-- R36: a BANK VERIFY on the inactive bank with no swap pending is answered BAD_BANK with the detail of the first check
that fails, the bank unchanged, or OK with the bank VERIFIED. -/
def Obligations.BankVerifyExaminesTheBank : Prop :=
  ∀ (a : Arrival) (b : BankName) (s : State), s.Delivers a → s.tables.swapPending = false → b ≠ s.tables.active →
    (s.tables.bank b).thresholds.length = 15 →
    let x := s.tables.bank b
    let ascends := ∀ i, i < 14 → x.thresholds.getD i 0 < x.thresholds.getD (i + 1) 0
    let straight := ∀ e ∈ x.row 0, e = 0
    let ranged := ∀ r ∈ x.rows, ∀ e ∈ r, e ≤ 100
    (¬ascends → exec (.bankVerify a b.code) s = .next { s with trunk := s.acked a 20 5 (some 1) }) ∧
    (ascends → ¬straight → exec (.bankVerify a b.code) s = .next { s with trunk := s.acked a 20 5 (some 2) }) ∧
    (ascends → straight → ¬ranged → exec (.bankVerify a b.code) s = .next { s with trunk := s.acked a 20 5 (some 3) }) ∧
    (ascends → straight → ranged →
      exec (.bankVerify a b.code) s = .next
        { s with tables := s.tables.setBank b { x with state := .verified }, trunk := s.acked a 20 0 none }) ∧
    (x.Law → x.state = .empty → ¬ascends) ∧ (x.Law → x.state = .verified → ascends ∧ straight ∧ ranged)

/-- BANK SWAP: BUSY while a swap is pending, BAD_BANK with detail 1 or 2 while the inactive bank is EMPTY or LOADING, and
else PENDING with the flag set and the selector where it was (R37). -/
def Obligations.BankSwapIsRequested : Prop :=
  ∀ (a : Arrival) (s : State), s.Delivers a →
    (s.tables.swapPending = true → exec (.bankSwap a) s = .next { s with trunk := s.acked a 21 3 none }) ∧
    (s.tables.swapPending = false → s.tables.inactiveBank.state = .empty →
      exec (.bankSwap a) s = .next { s with trunk := s.acked a 21 5 (some 1) }) ∧
    (s.tables.swapPending = false → s.tables.inactiveBank.state = .loading →
      exec (.bankSwap a) s = .next { s with trunk := s.acked a 21 5 (some 2) }) ∧
    (s.tables.swapPending = false → s.tables.inactiveBank.state = .verified →
      exec (.bankSwap a) s = .next
        { s with tables := { s.tables with swapPending := true }, trunk := s.acked a 21 1 none })

/-- The laws of the tables are kept by every step: the shape and ranges of both banks, an EMPTY bank all zeros, a VERIFIED
bank passing its checks, and a pending swap only to a VERIFIED bank (R27, R29, R36, R37). -/
def Obligations.StepsKeepTheTablesLaw : Prop :=
  ∀ s t : State, step s = .next t → s.tables.Law → t.tables.Law

/-! ## Odometry and position -/

/-- TACH_TRANSITION: the first sample sets the phase state; a legal transition counts +1 or -1 by TABLE 3-II and the
effective sense and moves the accumulator by the factor; both phases changed is a phase fault (R45 to R48). That a phase
fault which finds the count saturated at 255, with PHASE_FAULT_LIMIT 255, raises nothing is the model's reading (log entry
21). -/
def Obligations.TachTransitionsMoveThePosition : Prop :=
  ∀ (x y : Bool) (s : State), s.pins.rstN = true →
    let o := s.odometry
    let table := [((false, false), (true, false)), ((true, false), (true, true)), ((true, true), (false, true)),
      ((false, true), (false, false))]
    let sense := (s.params.tachSense == 1) != (s.trunk.headPort == some .B)
    (o.phase = none → exec (.tachTransition x y) s = .next { s with odometry := { o with phase := some (x, y) } }) ∧
    (o.phase = some (x, y) → exec (.tachTransition x y) s = .next s) ∧
    (∀ old forward, o.phase = some old → (if forward then (old, (x, y)) ∈ table else ((x, y), old) ∈ table) →
      let sum := o.pNode * 65536 + o.fraction + (if forward = sense then -s.params.wheelFactor else s.params.wheelFactor)
      (s.params.wheelFactorValid = true → -2147480948 ≤ sum / 65536 → sum / 65536 ≤ 2147480947 →
        exec (.tachTransition x y) s = .next
          { s with odometry :=
            { o with phase := some (x, y), pNode := sum / 65536, fraction := (sum % 65536).toNat } }) ∧
      (s.params.wheelFactorValid = false ∨ sum / 65536 < -2147480948 ∨ 2147480947 < sum / 65536 →
        exec (.tachTransition x y) s = .next { s with odometry := { o with phase := some (x, y) } })) ∧
    (∀ a b, o.phase = some (a, b) → a ≠ x → b ≠ y →
      let faulted :=
        { s with
          odometry :=
            { o with
              phase := some (x, y)
              phaseFaults := min 255 (o.phaseFaults + 1)
              phaseFaultTotal := min 65535 (o.phaseFaultTotal + 1) } }
      exec (.tachTransition x y) s = .next
        (if (o.phaseFaults : Int) + 1 = s.params.phaseFaultLimit then faulted.raise .odometry none 2 else faulted))

/-- POSITION accepted: sequence, speed, direction, phase-fault count and liveness change always; the position by TABLE
3-III when CAR_OFFSET is valid; a fix activates a staged factor; the telegram is forwarded (R51 to R58, R131). -/
def Obligations.PositionIsAccepted : Prop :=
  ∀ (a : Arrival) (b : PositionBody) (s : State) (d : Direction), s.Broadcasts a → b.distance.toNat ≤ 2000000000 →
    b.speed.toNat ≤ 10000 → (b.direction = 0 ∧ d = .forward ∨ b.direction = 1 ∧ d = .backward) →
    (∀ last, s.odometry.lastSequence = some last →
      1 ≤ (b.sequence - last).toNat ∧ (b.sequence - last).toNat ≤ 32767) →
    let heard := { s.odometry with
      lastSequence := some b.sequence, speed := b.speed.toNat, direction := d, phaseFaults := 0 }
    let live := { s.supervision with stage := .fresh, timer := some (s.params.watchInterval.toNat * 1000) }
    let q := (b.distance.toNat : Int) - s.params.carOffset
    let diff := q - s.odometry.pNode
    let fix := b.flags.getLsbD 0
    let activated :=
      match fix, s.odometry.stagedFactor with
      | true, some f => { s.params with wheelFactor := f, wheelFactorValid := true }
      | _, _ => s.params
    let placed := { heard with
      pNode := q, fraction := 0, aligned := true, discrepancies := 0
      stagedFactor := if fix then none else s.odometry.stagedFactor }
    let node := { s.node with params := activated }
    (s.params.carOffsetValid = false →
      exec (.position a b) s = .next
        { s with odometry := heard, supervision := live, trunk := s.forwarded a (.position b) }) ∧
    (s.params.carOffsetValid = true → s.odometry.aligned = false ∨ (diff.natAbs : Int) ≤ s.params.snapLimit →
      exec (.position a b) s = .next
        { s with odometry := placed, node := node, supervision := live, trunk := s.forwarded a (.position b) }) ∧
    (s.params.carOffsetValid = true → s.odometry.aligned = true → s.params.snapLimit < (diff.natAbs : Int) → fix = true →
      exec (.position a b) s = .next
        { s with
          odometry := { placed with lastFixJump := some diff }
          node := node, supervision := live, trunk := s.forwarded a (.position b) }) ∧
    (s.params.carOffsetValid = true → s.odometry.aligned = true → s.params.snapLimit < (diff.natAbs : Int) → fix = false →
      let doubted := { s.taken a.port with
        odometry := { heard with discrepancies := min 255 (s.odometry.discrepancies + 1) }, supervision := live }
      exec (.position a b) s = .next
        ((if (s.odometry.discrepancies : Int) + 1 = s.params.discrepancyLimit then doubted.raise .odometry none 1
          else doubted).thenForwards a.port ((Body.position b).telegram a)))

/-- POSITION not accepted: a malformed one is forwarded and changes nothing, a stale one is also counted (R50, R51). -/
def Obligations.PositionIsIgnored : Prop :=
  ∀ (a : Arrival) (b : PositionBody) (s : State), s.Broadcasts a →
    (2000000000 < b.distance.toNat ∨ 10000 < b.speed.toNat ∨ (b.direction ≠ 0 ∧ b.direction ≠ 1) →
      exec (.position a b) s = .next { s with trunk := s.forwarded a (.position b) }) ∧
    (∀ last, s.odometry.lastSequence = some last → b.distance.toNat ≤ 2000000000 → b.speed.toNat ≤ 10000 →
      b.direction = 0 ∨ b.direction = 1 → (b.sequence - last).toNat = 0 ∨ 32768 ≤ (b.sequence - last).toNat →
      exec (.position a b) s = .next
        { s with
          odometry := { s.odometry with stalePositions := min 65535 (s.odometry.stalePositions + 1) }
          trunk := s.forwarded a (.position b) })

/-- Every parameter that holds a value stays in its range, and the odometry in the ranges of TABLE 3-I and the bounds of
R48, through every step (R48, R49, R126). -/
def Obligations.StepsKeepParametersAndOdometryInRange : Prop :=
  ∀ s t : State, step s = .next t → s.params.Law ∧ s.odometry.Law → t.params.Law ∧ t.odometry.Law

/-! ## Node Control -/

/-- PARAM: the checks of R126 in their order, and what an accepted write changes: the parameter, with a WHEEL_FACTOR staged
while one is valid and a CAR_OFFSET clearing the alignment (R49, R59, R126). The first part is TABLE 6-VII row by row: the
identifier, the parameter, its lowest and highest value, and whether it is writable in STANDBY alone. -/
def Obligations.ParamWritesAreCheckedInOrder : Prop :=
  (∀ row ∈ ([(1, .carOffset, Params.carOffset, 0, 6000, true), (2, .bogieOffset1, Params.bogieOffset1, -200, 200, true),
      (3, .bogieOffset2, Params.bogieOffset2, -200, 200, true), (4, .tachSense, Params.tachSense, 0, 1, true),
      (5, .wheelFactor, Params.wheelFactor, 1, 1048575, false), (6, .leadTime, Params.leadTime, 0, 2500, false),
      (7, .period, Params.period, 5, 50, true), (8, .authority, Params.authority, 0, 100, true),
      (9, .staleLimit, Params.staleLimit, 0, 100, false), (10, .rollRate, Params.rollRate, 5, 100, false),
      (11, .returnRate, Params.returnRate, 5, 100, false), (12, .watchInterval, Params.watchInterval, 50, 2000, false),
      (13, .snapLimit, Params.snapLimit, 0, 1000, false), (14, .discrepancyLimit, Params.discrepancyLimit, 1, 15, false),
      (15, .trackBand, Params.trackBand, 5, 50, false), (16, .trackPersist, Params.trackPersist, 1, 100, false),
      (17, .centreBand, Params.centreBand, 1, 20, false), (18, .lockTimeout, Params.lockTimeout, 100, 5000, false),
      (19, .feedbackMissLimit, Params.feedbackMissLimit, 1, 10, false),
      (20, .phaseFaultLimit, Params.phaseFaultLimit, 1, 255, false)] :
        List (Byte × ParamId × (Params → Int) × Int × Int × Bool)),
    paramOf row.1 = some row.2.1 ∧ (∀ p : Params, p.get row.2.1 = row.2.2.1 p) ∧
    row.2.1.range = (row.2.2.2.1, row.2.2.2.2.1) ∧ row.2.1.standbyOnly = row.2.2.2.2.2) ∧
  ∀ (a : Arrival) (ident : Byte) (value : Word) (s : State), s.Delivers a →
    ((ident.toNat = 0 ∨ 20 < ident.toNat) →
      exec (.param a ident value) s = .next { s with trunk := s.acked a 16 4 (some 1) }) ∧
    (1 ≤ ident.toNat → ident.toNat ≤ 20 → ∃ i, paramOf ident = some i ∧
      let v := value.toInt
      let writable := if i.standbyOnly then s.node.state = .standby else s.node.state ≠ .offline
      let wrote := { s with
        node := { s.node with params := s.params.set v i }, trunk := s.acked a 16 0 none }
      (¬writable → exec (.param a ident value) s = .next { s with trunk := s.acked a 16 2 none }) ∧
      (writable → v < i.range.1 ∨ i.range.2 < v →
        exec (.param a ident value) s = .next { s with trunk := s.acked a 16 4 (some 2) }) ∧
      (writable → i.range.1 ≤ v → v ≤ i.range.2 →
        (i = .wheelFactor → s.params.wheelFactorValid = true →
          exec (.param a ident value) s = .next
            { s with odometry := { s.odometry with stagedFactor := some v }, trunk := s.acked a 16 0 none }) ∧
        (i = .carOffset →
          exec (.param a ident value) s = .next
            { wrote with odometry := { s.odometry with aligned := false, discrepancies := 0 } }) ∧
        (i ≠ .carOffset → (i = .wheelFactor → s.params.wheelFactorValid = false) →
          exec (.param a ident value) s = .next wrote) ∧
        (s.params.set v i).get i = v ∧ (s.params.set v i).valid i = true ∧
        ∀ j, j ≠ i → (s.params.set v i).get j = s.params.get j ∧ (s.params.set v i).valid j = s.params.valid j))

/-- ENABLE in STANDBY with the five preconditions of TABLE 6-V met: ACTIVE, both channels UNLOCKING with marks and
persistence clear, the unlock timer started, ACK OK (R115). -/
def Obligations.EnableIsAccepted : Prop :=
  ∀ (a : Arrival) (s : State), s.Delivers a → s.node.state = .standby →
    s.params.carOffsetValid = true → s.params.bogieOffset1Valid = true → s.params.bogieOffset2Valid = true →
    s.params.wheelFactorValid = true → s.tables.activeBank.state = .verified → s.odometry.aligned = true →
    s.supervision.stage = .fresh → s.window.covered s.nodeLookPoint = true →
    (∀ c, ∃ x, s.lookPoint c = some x ∧ s.window.covered x = true) →
    (∀ c, (s.channel c).state = .locked ∧ (s.channel c).misses = 0 ∧ (s.channel c).faultCode = 0) →
    exec (.enable a) s = .next
      { s with
        node := { s.node with state := .active, unlockTimer := some (s.params.lockTimeout.toNat * 1000) }
        tilt :=
          { s.tilt with
            ch1 := { s.tilt.ch1 with state := .unlocking, mark := false, persistence := 0 }
            ch2 := { s.tilt.ch2 with state := .unlocking, mark := false, persistence := 0 } }
        trunk := s.acked a 22 0 none }

/-- ENABLE refused: in STANDBY by the first of the five preconditions of TABLE 6-V that fails, with its detail; BUSY in
WINDDOWN; BAD_STATE in ACTIVE and SAFE; no state changes (R114, R116). -/
def Obligations.EnableIsRefusedInOrder : Prop :=
  ∀ (a : Arrival) (s : State), s.Delivers a →
    let params := s.params.carOffsetValid = true ∧ s.params.bogieOffset1Valid = true ∧
      s.params.bogieOffset2Valid = true ∧ s.params.wheelFactorValid = true
    let bank := s.tables.activeBank.state = .verified
    let position := s.odometry.aligned = true ∧ s.supervision.stage = .fresh
    let route := s.window.covered s.nodeLookPoint = true ∧
      ∀ c, ∃ x, s.lookPoint c = some x ∧ s.window.covered x = true
    let drives := ∀ c, (s.channel c).state = .locked ∧ (s.channel c).misses = 0 ∧ (s.channel c).faultCode = 0
    let refused := fun (result : Byte) (detail : Option Nat) =>
      exec (.enable a) s = .next { s with trunk := s.acked a 22 result detail }
    (s.node.state = .standby →
      (¬params → refused 7 (some 1)) ∧ (params → ¬bank → refused 7 (some 2)) ∧
      (params → bank → ¬position → refused 7 (some 3)) ∧
      (params → bank → position → ¬route → refused 7 (some 4)) ∧
      (params → bank → position → route → ¬drives → refused 7 (some 5))) ∧
    (s.node.state = .winddown → refused 3 none) ∧
    (s.node.state = .active ∨ s.node.state = .safe → refused 2 none)

/-- DISABLE: in ACTIVE the node goes to WINDDOWN, the unlock timer stops, each channel moves by R97 and the runout cause is
cleared; in STANDBY, WINDDOWN and SAFE it is refused BAD_STATE (R74, R97, R117). -/
def Obligations.DisableStartsWinddown : Prop :=
  ∀ (a : Arrival) (s : State), s.Delivers a →
    (s.node.state = .active →
      ∃ t, exec (.disable a) s = .next t ∧ t = { s with
        node := { s.node with state := .winddown, unlockTimer := none }
        tilt := { s.tilt with ch1 := t.tilt.ch1, ch2 := t.tilt.ch2 }
        generator := { s.generator with runout := false }
        trunk := s.acked a 22 0 none } ∧
        ∀ c, ((s.channel c).state = .tracking ∨ (s.channel c).state = .returning →
            t.channel c = { s.channel c with state := .returning }) ∧
          ((s.channel c).state = .unlocking → t.channel c = (s.startsLocking c).channel c) ∧
          ((s.channel c).state = .locked ∨ (s.channel c).state = .locking ∨ (s.channel c).state = .failed →
            t.channel c = s.channel c)) ∧
    (s.node.state = .standby ∨ s.node.state = .winddown ∨ s.node.state = .safe →
      exec (.disable a) s = .next { s with trunk := s.acked a 22 2 none })

/-- RELEASE leaves SAFE for STANDBY when both channels are LOCKED and is refused otherwise; CLEAR_FAULTS empties the list,
its flag and its count in the four addressed states, and keeps the sequence counter (R119, R121, R138). -/
def Obligations.ReleaseAndClearFaults : Prop :=
  ∀ (a : Arrival) (s : State), s.Delivers a →
    (s.node.state = .safe → (∀ c, (s.channel c).state = .locked) →
      exec (.release a) s = .next
        { s with node := { s.node with state := .standby }, trunk := s.acked a 22 0 none }) ∧
    (s.node.state = .safe → (∃ c, (s.channel c).state ≠ .locked) →
      exec (.release a) s = .next { s with trunk := s.acked a 22 7 (some 5) }) ∧
    (s.node.state = .standby ∨ s.node.state = .active ∨ s.node.state = .winddown →
      exec (.release a) s = .next { s with trunk := s.acked a 22 2 none }) ∧
    (s.node.state ≠ .offline →
      exec (.clearFaults a) s = .next
        { s with
          supervision := { s.supervision with faults := [], overflow := false, overflowCount := 0 }
          trunk := s.acked a 22 0 none })

/-- RESET in STANDBY or SAFE with both channels LOCKED: the command-reset values of every block, with the Trunk Unit and
its ACK, the fault list, its overflow and the sequence counter kept; refused otherwise (R120, 6.6.1). -/
def Obligations.ResetCommandRestoresTheBlocks : Prop :=
  ∀ (a : Arrival) (s : State), s.Delivers a →
    (s.node.state = .standby ∨ s.node.state = .safe → (∀ c, (s.channel c).state = .locked) →
      exec (.reset a) s = .next
        { State.reset with
          pins := s.pins
          trunk := s.acked a 22 0 none
          node := { state := .standby, params := State.reset.params, unlockTimer := none }
          supervision :=
            { s.supervision with stage := .lost, timer := none, snapshot := none, ignoredSnapshots := 0 }
          freeCount := s.freeCount
          pending := s.pending }) ∧
    (s.node.state = .standby ∨ s.node.state = .safe → (∃ c, (s.channel c).state ≠ .locked) →
      exec (.reset a) s = .next { s with trunk := s.acked a 22 7 (some 5) }) ∧
    (s.node.state = .active ∨ s.node.state = .winddown →
      exec (.reset a) s = .next { s with trunk := s.acked a 22 2 none })

/-- ENUMERATE: TABLE 8-V row by row, with what a change of head port and of address does, the fault of a refusal, and the
next-address forwarded (R154 to R158). -/
def Obligations.EnumerateFollowsItsTable : Prop :=
  ∀ (a : Arrival) (n : Byte) (s : State), s.Live a.port → a.dest = 0 →
    let unnumbered := s.node.state = .offline ∨ s.node.state = .standby
    let taken := s.trunk.endReceiving a.port
    let headChanges := s.trunk.headPort ≠ some a.port
    let changes := headChanges ∨ s.trunk.address ≠ some n.toNat
    let held := s.trunk.headPort ≠ none ∨ s.trunk.address ≠ none
    let unaligned := { s.odometry with aligned := false, discrepancies := 0 }
    let unplaced := { s.params with carOffsetValid := false }
    let emptied := fun (t : Trunk) => { t with
      own := [], arbiter := 0, ownDrops := min 65535 (t.ownDrops + t.own.length) }
    let on := fun (next : Byte) => (Body.enumerate next).telegram a
    (n = 0 → exec (.enumerate a n) s = .next { s with trunk := s.passedOn a.port (on 0) }) ∧
    (unnumbered → 1 ≤ n.toNat → n.toNat ≤ 16 →
      exec (.enumerate a n) s = .next
        ({ s with
          trunk := { (if headChanges then emptied taken else taken) with
            headPort := some a.port, address := some n.toNat }
          window := if headChanges then
              s.window.afterWithdrawal []
                { requested := .all, id := none, performed := .all, removed := s.window.segments.length }
            else s.window
          node := { s.node with state := .standby, params := if changes then unplaced else s.params }
          odometry := if changes then unaligned else s.odometry }.thenForwards a.port (on (n + 1)))) ∧
    (s.node.state = .standby → 17 ≤ n.toNat →
      exec (.enumerate a n) s = .next
        (({ s with
          trunk := { emptied taken with headPort := none, address := none }
          node := { s.node with state := .offline, params := if held then unplaced else s.params }
          odometry := if held then unaligned else s.odometry }.raise .enumeration none 1).thenForwards a.port (on n))) ∧
    (s.node.state = .offline → 17 ≤ n.toNat →
      exec (.enumerate a n) s = .next (((s.taken a.port).raise .enumeration none 1).thenForwards a.port (on n))) ∧
    (¬unnumbered → n ≠ 0 →
      exec (.enumerate a n) s = .next
        (((s.taken a.port).raise .enumeration none 2).thenForwards a.port (on (if n = 255 then 255 else n + 1))))

/-- What the node state, the channels, the timers, the alignment and the tables say of one another is kept by every step
(R96, R112, R145, TABLES 4-II, 5-IV and 6-II). -/
def Obligations.StepsKeepTheModeLaw : Prop :=
  ∀ s t : State, step s = .next t → s.ModeLaw → t.ModeLaw

/-! ## The Supervision Unit -/

/-- SNAPSHOT latches an EMPTY register with TABLE 7-III and is ignored and counted on a LATCHED one; a LATCHED register is
changed only by a destructive SNAPSHOT query or a reset (R141, R142). -/
def Obligations.SnapshotRegisterLatchesOnce : Prop :=
  (∀ (a : Arrival) (s : State), s.Broadcasts a →
    (s.supervision.snapshot = none →
      exec (.snapshot a) s = .next
        { s with
          supervision := { s.supervision with
            snapshot := some
              { tag := a.tag
                node := s.node.state
                stage := s.supervision.stage
                aligned := s.odometry.aligned
                pNode := s.odometry.pNode
                speed := s.odometry.speed
                ch1 :=
                  { state := s.tilt.ch1.state, lastDemand := s.generator.last1
                    feedback := s.tilt.ch1.feedback.map (fun f => (f.measured, f.lock)) }
                ch2 :=
                  { state := s.tilt.ch2.state, lastDemand := s.generator.last2
                    feedback := s.tilt.ch2.feedback.map (fun f => (f.measured, f.lock)) }
                depth := s.window.segments.length
                active := s.tables.active } }
          trunk := s.forwarded a .snapshot }) ∧
    (∀ held, s.supervision.snapshot = some held →
      exec (.snapshot a) s = .next
        { s with
          supervision := { s.supervision with
            ignoredSnapshots := min 65535 (s.supervision.ignoredSnapshots + 1) }
          trunk := s.forwarded a .snapshot })) ∧
  ∀ (s t : State) (held : Snapshot), s.supervision.snapshot = some held → step s = .next t →
    t.supervision.snapshot ≠ some held → ∃ c rest, s.pending = c :: rest ∧
      ((∃ x y, c = .powerOnReset x y) ∨ c = .resetAsserted ∨ ∃ p x, arrivalOf c = some (p, x) ∧
        (x.body = some (.command 5) ∨ ∃ u v, x.body = some (.query 7 u v)))

/-- LIVENESS_TIMER_EXPIRY: FRESH becomes STALE with the timer started again; STALE becomes LOST with the timer stopped, and
a LIVENESS fault in ACTIVE and WINDDOWN; a stopped timer does nothing (R132, R133). -/
def Obligations.LivenessTimerExpires : Prop :=
  ∀ s : State, s.pins.rstN = true →
    let lost := { s with supervision := { s.supervision with stage := .lost, timer := none } }
    (s.supervision.timer = none ∨ s.supervision.stage = .lost → exec .livenessTimerExpiry s = .next s) ∧
    (s.supervision.timer ≠ none → s.supervision.stage = .fresh →
      exec .livenessTimerExpiry s = .next
        { s with supervision := { s.supervision with
          stage := .stale, timer := some (s.params.watchInterval.toNat * 1000) } }) ∧
    (s.supervision.timer ≠ none → s.supervision.stage = .stale →
      s.node.state = .active ∨ s.node.state = .winddown →
      exec .livenessTimerExpiry s = .next (lost.raise .liveness none 0)) ∧
    (s.supervision.timer ≠ none → s.supervision.stage = .stale →
      s.node.state = .standby ∨ s.node.state = .safe ∨ s.node.state = .offline →
      exec .livenessTimerExpiry s = .next lost)

/-- A fault raised: suppressed in SAFE by a record of its class and channel, counted as overflow when 8 records are held,
else stored with the counter's number, the node state and the aligned position; an ALERT is placed when the offer stores
or first overflows, the head port is known and none waits (R135, R136, R139, R140). -/
def Obligations.FaultsAreOfferedToTheList : Prop :=
  ∀ (s : State) (cls : FaultClass) (ch : Option Channel) (detail : Nat),
    let t := s.raise cls ch detail
    let v := s.supervision
    let matched := s.node.state = .safe ∧ ∃ r ∈ v.faults, r.cls = cls ∧ r.channel = ch
    let record : FaultRecord :=
      { sequence := v.sequence, cls := cls, channel := ch, node := s.node.state
        pNode := if s.odometry.aligned then some s.odometry.pNode else none, detail := detail }
    let alert := fun (newest : Byte) => s.trunk.originate 34 0
      [newest, cls.code, t.node.state.code, flagByte t.supervision.overflow]
    (matched → t.supervision = v ∧ t.trunk = s.trunk) ∧
    (¬matched → 8 ≤ v.faults.length →
      t.supervision = { v with overflow := true, overflowCount := min 65535 (v.overflowCount + 1) } ∧
      (v.overflow = true → t.trunk = s.trunk) ∧
      (v.overflow = false → s.trunk.headPort ≠ none → (∀ x ∈ s.trunk.own, x.kind ≠ 34) →
        ∀ newest, v.faults.getLast? = some newest → t.trunk = s.trunk.placeOwn (alert newest.sequence))) ∧
    (¬matched → v.faults.length < 8 →
      t.supervision = { v with faults := v.faults ++ [record], sequence := v.sequence + 1 } ∧
      (s.trunk.headPort ≠ none → (∀ x ∈ s.trunk.own, x.kind ≠ 34) →
        t.trunk = s.trunk.placeOwn (alert v.sequence))) ∧
    (s.trunk.headPort = none ∨ (∃ x ∈ s.trunk.own, x.kind = 34) → t.trunk = s.trunk) ∧
    t.pins = s.pins ∧ t.window = s.window ∧ t.tables = s.tables ∧ t.odometry = s.odometry

/-- A node-stopping fault takes STANDBY, ACTIVE and WINDDOWN to SAFE, stops the unlock timer, moves each channel by R97 and
clears the runout cause; in SAFE and OFFLINE, and for WINDOW and ENUMERATION, node and channels are unchanged (R123). -/
def Obligations.StoppingFaultsTakeTheNodeToSafe : Prop :=
  ∀ (s : State) (cls : FaultClass) (ch : Option Channel) (detail : Nat),
    let t := s.raise cls ch detail
    (cls = .window ∨ cls = .enumeration ∨ s.node.state = .safe ∨ s.node.state = .offline →
      t.node = s.node ∧ t.tilt = s.tilt ∧ t.generator = s.generator) ∧
    (cls ≠ .window → cls ≠ .enumeration →
      s.node.state = .standby ∨ s.node.state = .active ∨ s.node.state = .winddown →
      t.node = { s.node with state := .safe, unlockTimer := none } ∧
      t.generator = { s.generator with runout := false } ∧
      t.tilt = { s.tilt with ch1 := t.tilt.ch1, ch2 := t.tilt.ch2 } ∧
      ∀ c, ((s.channel c).state = .tracking ∨ (s.channel c).state = .returning →
          t.channel c = { s.channel c with state := .returning }) ∧
        ((s.channel c).state = .unlocking → t.channel c = (s.startsLocking c).channel c) ∧
        ((s.channel c).state = .locked ∨ (s.channel c).state = .locking ∨ (s.channel c).state = .failed →
          t.channel c = s.channel c))

/-- The law of the fault record list and of the liveness stage is kept by every step: at most 8 records with consecutive
numbers up to the counter, the flag set exactly with a count, a stopped timer exactly in LOST (R133, R137). -/
def Obligations.StepsKeepTheSupervisionLaw : Prop :=
  ∀ s t : State, step s = .next t → s.supervision.Law → t.supervision.Law

/-! ## Queries -/

/-- Every query that passes its checks is answered OK with its item's contents as the blocks stand, laid out by TABLES 9-III
and 10-IX with the codes of TABLE 10-X, and changes nothing but the own queue; the destructive SNAPSHOT query also empties
the register (R26, R42, R143, R162 to R165, R168). The answer is one REPORT: kind 33, destination 32, the node address, the
query's tag, and the four bytes of TABLE 10-V before the contents (R160). The order of the counters of the two ports in
COUNTERS is the model's reading (log entry 13), and no value is claimed for a last fix jump outside signed 32 bits (log
entry 28). -/
def Obligations.QueriesReportTheStateAsItStands : Prop :=
  ∀ (a : Arrival) (x y : Byte) (s : State), s.Delivers a →
    let report := fun (item : Byte) (fields : List (Nat × Int)) =>
      (s.trunk.endReceiving a.port).placeOwn
        { kind := 33, dest := 32, source := a.dest, tag := a.tag, payload := [item, 0, 0, 0] ++ packed fields }
    let answers := fun (c : Instr) (item : Byte) (fields : List (Nat × Int)) =>
      exec c s = .next { s with trunk := report item fields }
    let nodeState := codeField [NodeState.offline, .standby, .active, .winddown, .safe]
    let stage := fun (g : Stage) => codeField [none, some Stage.fresh, some .stale, some .lost] (some g)
    let bankName := fun (b : BankName) => codeField [none, some BankName.A, some .B] (some b)
    let bankState := codeField [BankState.empty, .loading, .verified]
    let channel := fun (v : ChannelView) =>
      [codeField [none, some ChannelState.locked, some .unlocking, some .tracking, some .returning, some .locking,
          some .failed] (some v.state), field 1 v.lastDemand, field 2 ((v.feedback.map Prod.fst).getD 0),
        codeField [none, some LockState.engaged, some .travelling, some .released] (v.feedback.map Prod.snd)]
    let view := fun (c : Channel) =>
      channel
        { state := (s.channel c).state, lastDemand := s.lastDemand c
          feedback := (s.channel c).feedback.map (fun f => (f.measured, f.lock)) }
    let profile := fun (p : Profile) =>
      [field 1 p.cls, codeField [Hand.none, .left, .right] p.hand, field 1 p.cant]
    let granularity := codeField [Granularity.none, .one, .from, .all]
    let snapshot := fun (r : Option Snapshot) =>
      match r with
      | none => [flagField false]
      | some p =>
        [flagField true, field 2 p.tag.toNat, nodeState p.node, stage p.stage, flagField p.aligned, field 4 p.pNode,
          field 2 p.speed] ++ channel p.ch1 ++ channel p.ch2 ++ [field 1 p.depth, bankName p.active]
    let link := codeField [LinkState.down, .training, .up]
    let rate := codeField [none, some Rate.kbit1250, some .kbit2500, some .kbit5000]
    (∃ jump : Option Int, jump.isSome = s.odometry.lastFixJump.isSome ∧
      (∀ n, s.odometry.lastFixJump = some n → -2147483648 ≤ n → n ≤ 2147483647 → jump = some n) ∧
      answers (.queryStatus a x y) 1
        ([nodeState s.node.state, field 1 a.dest.toNat, codeField [none, some Port.A, some .B] s.trunk.headPort,
            stage s.supervision.stage, flagField s.odometry.aligned, field 4 s.odometry.pNode, field 2 s.odometry.speed,
            codeField [Direction.forward, .backward] s.odometry.direction, field 1 s.odometry.discrepancies] ++
          optionalFields [4] (jump.map (fun n => [field 4 n])) ++ view .CH1 ++ view .CH2 ++
          [bankName s.tables.active, bankState s.tables.bankA.state, bankState s.tables.bankB.state,
            flagField s.tables.swapPending, field 1 s.window.segments.length, field 1 s.supervision.faults.length,
            flagField s.supervision.overflow])) ∧
    answers (.queryWindow a x y) 2
      ([field 1 s.window.segments.length] ++
        optionalFields [2, 4, 2, 4]
          (s.window.segments.head?.bind (fun h => s.window.segments.getLast?.map (fun t =>
            [field 2 h.id, field 4 h.start, field 2 t.id, field 4 (t.start + t.length)]))) ++
        optionalFields [1, 2]
          (s.window.lastRefusal.map (fun r =>
            [codeField [none, some RefusalReason.malformed, some .order, some .gap, some .mismatch, some .full]
              (some r.reason), field 2 r.id])) ++
        optionalFields [1, 1, 2, 1, 1]
          (s.window.lastWithdrawal.map (fun r =>
            [granularity r.requested] ++ optionalFields [2] (r.id.map (fun n => [field 2 n])) ++
              [granularity r.performed, field 1 r.removed])) ++
        [field 2 s.window.runouts]) ∧
    (∀ g, s.window.segments[x.toNat]? = some g →
      answers (.querySegment a x y) 3
        ([flagField true, field 2 g.id, field 4 g.start, field 2 g.length, field 1 (if g.kind = .constant then 0 else 1)] ++
          profile g.entry ++ (if g.kind = .constant then [field 1 0, field 1 0, field 1 0] else profile g.exit) ++
          [field 1 (g.tiltLimit.getD 0), field 1 (g.rateLimit.getD 0),
            field 1 ((if g.tiltLimit.isSome then 1 else 0) + (if g.rateLimit.isSome then 2 else 0) +
              if g.inhibit then 4 else 0)])) ∧
    (s.window.segments.length ≤ x.toNat → answers (.querySegment a x y) 3 [flagField false]) ∧
    (∀ b : BankName, y.toNat ≤ 31 → (s.tables.bank b).Law →
      answers (.queryTableRow a b.code y) 4
        ((List.range 16).map (fun band => field 1 ((s.tables.bank b).entry y.toNat band)))) ∧
    (∀ b : BankName, (s.tables.bank b).Law →
      answers (.queryThresholds a b.code y) 5
        ((List.range 15).map (fun i => field 2 ((s.tables.bank b).thresholds.getD i 0)))) ∧
    (x.toNat ≤ 7 →
      let shown := (s.supervision.faults.drop x.toNat).take 3
      answers (.queryFaults a x y) 6
        ([field 1 shown.length, field 1 s.supervision.faults.length, flagField s.supervision.overflow,
            field 2 s.supervision.overflowCount, field 1 s.supervision.sequence.toNat] ++
          shown.flatMap (fun r =>
            [field 1 r.sequence.toNat,
              codeField [none, some FaultClass.liveness, some .odometry, some .drive, some .feedback, some .tracking,
                some .unlockTimeout, some .lockTimeout, some .lockLost, some .window, some .enumeration] (some r.cls),
              codeField [none, some Channel.CH1, some .CH2] r.channel, nodeState r.node] ++
            optionalFields [4] (r.pNode.map (fun n => [field 4 n])) ++ [field 1 r.detail]))) ∧
    exec (.querySnapshot a x y) s = .next
      { s with
        supervision := { s.supervision with snapshot := none }
        trunk := report 7 (snapshot s.supervision.snapshot) } ∧
    answers (.querySnapshotPeek a x y) 8 (snapshot s.supervision.snapshot) ∧
    (∀ i, paramOf x = some i →
      answers (.queryParam a x y) 9
        ([field 1 x.toNat, field 4 (s.params.get i), flagField (s.params.valid i)] ++
          optionalFields [4]
            (if i = .wheelFactor then s.odometry.stagedFactor.map (fun f => [field 4 f]) else none))) ∧
    answers (.queryCounters a x y) 10
      [field 2 s.trunk.rxErrorsA, field 2 s.trunk.rxErrorsB, field 2 s.trunk.wrongSideA, field 2 s.trunk.wrongSideB,
        field 2 s.trunk.dropsB, field 2 s.trunk.dropsA, field 2 s.trunk.ownDrops, field 2 s.odometry.stalePositions,
        field 2 s.window.refusals, field 2 s.odometry.phaseFaultTotal, field 2 s.supervision.ignoredSnapshots,
        field 2 s.tilt.ch1.lateFeedbacks, field 2 s.tilt.ch2.lateFeedbacks, link s.trunk.portA.link, rate s.trunk.portA.rate,
        link s.trunk.portB.link, rate s.trunk.portB.rate]

/-- Requests that fail their checks are answered without contents and change nothing but the own queue: an item or bank
of no code and a COMMAND of no code MALFORMED, an argument out of range RANGE with its detail (R113, R162). The item byte
of a query of no code is the one received: the model's reading (log entry 26). A REPORT has kind 33 and an ACK kind 32, to
destination 32 from the node address with the tag answered, and their first four bytes are those of TABLE 10-V: detail flag
1 with a detail of 0 to 255, and 0 with detail 0 without one (R160). -/
def Obligations.RequestsOutOfRangeAreRefused : Prop :=
  ∀ (a : Arrival) (x y : Byte) (s : State), s.Delivers a →
    let reply := fun (kind : Byte) (payload : List Byte) =>
      (s.trunk.endReceiving a.port).placeOwn
        { kind := kind, dest := 32, source := a.dest, tag := a.tag, payload := payload }
    let head := fun (first result : Byte) (detail : Option Nat) =>
      match detail with
      | none => [first, result, 0, 0]
      | some n => [first, result, 1, BitVec.ofNat 8 n]
    let refuses := fun (c : Instr) (item result : Byte) (detail : Option Nat) =>
      exec c s = .next { s with trunk := reply 33 (head item result detail) }
    (∀ kind result detail, s.acked a kind result detail = reply 32 (head kind result detail)) ∧
    (∀ item result detail contents,
      s.reported a item result detail contents = reply 33 (head item result detail ++ contents)) ∧
    (∀ item : Byte, item.toNat = 0 ∨ 10 < item.toNat → refuses (.malformedQuery a item x y) item 8 none) ∧
    (x ≠ 1 → x ≠ 2 → refuses (.queryTableRow a x y) 4 8 none ∧ refuses (.queryThresholds a x y) 5 8 none) ∧
    (x = 1 ∨ x = 2 → 31 < y.toNat → refuses (.queryTableRow a x y) 4 4 (some 2)) ∧
    (7 < x.toNat → refuses (.queryFaults a x y) 6 4 (some 1)) ∧
    (x.toNat = 0 ∨ 20 < x.toNat → refuses (.queryParam a x y) 9 4 (some 1)) ∧
    (∀ code : Byte, code.toNat = 0 ∨ 5 < code.toNat →
      exec (.malformedCommand a code) s = .next { s with trunk := reply 32 [22, 8, 0, 0] })

/-! ## Demands -/

/-- The positions of the car and the look points: the effective offsets by the head port, the rear reference as the least,
and the lookahead distance of the held speed, 0 when BACKWARD (R17, R68, R69). -/
def Obligations.LookPointsLieAheadOfThePositions : Prop :=
  ∀ s : State,
    (s.odometry.direction = .backward → s.lookahead = 0) ∧
    (s.odometry.direction = .forward → 0 ≤ s.params.leadTime →
      s.lookahead = (s.odometry.speed : Int) * s.params.leadTime / 10000) ∧
    (s.params.Law → s.odometry.Law → 0 ≤ s.lookahead ∧ s.lookahead ≤ 2500) ∧
    s.nodeLookPoint = s.odometry.pNode + s.lookahead ∧
    (∀ c, s.lookPoint c = (s.channelPosition c).map (fun x => x + s.lookahead)) ∧
    (∀ c o, s.params.bogieOffset c = some o →
      (s.trunk.headPort = some .A → s.channelPosition c = some (s.odometry.pNode + o)) ∧
      (s.trunk.headPort = some .B → s.channelPosition c = some (s.odometry.pNode - o))) ∧
    (∀ c, s.params.bogieOffset c = none → s.channelPosition c = none) ∧
    s.rearReference ≤ s.odometry.pNode ∧ (∀ c x, s.channelPosition c = some x → s.rearReference ≤ x) ∧
    (s.rearReference = s.odometry.pNode ∨ ∃ c, s.channelPosition c = some s.rearReference)

/-- CONTROL_PERIOD_EXPIRY: the next period starts, a pending swap completes, an aligned node retires the segments that end
at or before the rear reference, both DEMAND frames are fixed and drive 1's is sent, and a channel outside an ACTIVE pair
returns toward 0 or holds 0 (R18, R38, R65 to R67, R80, R82, R89, R90). R89 excludes an expiry that finds the link not IDLE:
that drive 1's exchange then starts anew is the model's choice (log entry 14). Each frame requests ENGAGE in LOCKED, LOCKING
and FAILED and RELEASE in UNLOCKING, TRACKING and RETURNING, as the expiry leaves the channel state (R90, TABLE 5-IV). -/
def Obligations.ExpiryRunsTheControlPeriod : Prop :=
  let request : ChannelState → LockRequest := fun x =>
    match x with
    | .locked => .engage
    | .locking => .engage
    | .failed => .engage
    | .unlocking => .release
    | .tracking => .release
    | .returning => .release
  ∀ s : State, s.pins.rstN = true → ∃ t, exec .controlPeriodExpiry s = .next t ∧
    t.pins = s.pins ∧ t.trunk = s.trunk ∧ t.odometry = s.odometry ∧ t.node = s.node ∧ t.supervision = s.supervision ∧
    t.generator.timer = s.params.period.toNat * 1000 ∧ t.generator.period = s.params.period.toNat ∧
    t.tables = (if s.tables.swapPending then { s.tables with active := s.tables.active.other, swapPending := false }
      else s.tables) ∧
    t.window = { s.window with
      segments := if s.odometry.aligned then
          s.window.segments.dropWhile (fun g => decide (((g.start + g.length : Nat) : Int) ≤ s.rearReference))
        else s.window.segments
      runouts := t.window.runouts } ∧
    t.tilt = { s.tilt with
      ch1 := { s.tilt.ch1 with state := t.tilt.ch1.state }
      ch2 := { s.tilt.ch2 with state := t.tilt.ch2.state }
      phase := .sending
        { drive := .CH1, sequence := s.tilt.ch1.sequence, demand := s.turn t.generator.last1
          lock := request t.tilt.ch1.state } 100
      waiting := some
        { drive := .CH2, sequence := s.tilt.ch2.sequence, demand := s.turn t.generator.last2
          lock := request t.tilt.ch2.state }
      window := none } ∧
    (¬s.ActivePair .tracking → ¬(s.ActivePair .returning ∧ s.generator.runout = true) →
      t.window.runouts = s.window.runouts ∧ t.generator.runout = s.generator.runout ∧
      ∀ c, (t.channel c).state = (s.channel c).state ∧
        ((s.channel c).state = .returning →
          StepsTo (s.lastDemand c) 0 (max 1 (s.params.returnRate * s.params.period / 1000)) (t.lastDemand c)) ∧
        ((s.channel c).state = .locked ∨ (s.channel c).state = .unlocking ∨ (s.channel c).state = .locking ∨
          (s.channel c).state = .failed → t.lastDemand c = 0))

/-- The demands of an ACTIVE pair that is TRACKING or RETURNING for runout: with all look points covered both track, each
toward T(L_c) + C(L_c) - C(L_n) clipped to the cap, by one tracking step at most; otherwise both return for runout, which
is counted at its entry (R23, R71 to R73, R76 to R80). -/
def Obligations.ExpiryTracksTheRouteOrRunsOut : Prop :=
  ∀ s : State, s.pins.rstN = true →
    s.ActivePair .tracking ∨ s.ActivePair .returning ∧ s.generator.runout = true →
    let v := s.expiryView
    let band := v.tables.activeBank.band s.odometry.speed
    let covered := v.window.covered s.nodeLookPoint = true ∧
      ∀ c, ∃ x, s.lookPoint c = some x ∧ v.window.covered x = true
    ∃ t, exec .controlPeriodExpiry s = .next t ∧
      (covered → t.generator.runout = false ∧ t.window.runouts = s.window.runouts ∧
        ∀ c, (t.channel c).state = .tracking ∧
          ∃ gc gn x cap step, v.window.at s.nodeLookPoint = some gc ∧ s.lookPoint c = some x ∧ v.window.at x = some gn ∧
            (cap ≤ s.params.authority ∧ (∀ l, gc.tiltLimit = some l → cap ≤ l) ∧ (gc.inhibit = true → cap ≤ 0) ∧
              (s.supervision.stage = .stale → cap ≤ s.params.staleLimit) ∧
              (cap = s.params.authority ∨ gc.tiltLimit.map (fun l => (l : Int)) = some cap ∨
                (gc.inhibit = true ∧ cap = 0) ∨ (s.supervision.stage = .stale ∧ cap = s.params.staleLimit))) ∧
            (∃ rate : Int, step = max 1 (rate * s.params.period / 1000) ∧
              (gc.rateLimit = none → rate = s.params.rollRate) ∧
              ∀ l, gc.rateLimit = some l → rate = min s.params.rollRate l) ∧
            StepsTo (s.lastDemand c)
              (rawOf (gc.target v.tables.activeBank band s.nodeLookPoint) (gc.cantAt s.nodeLookPoint) (gn.cantAt x) cap)
              step (t.lastDemand c)) ∧
      (¬covered → t.generator.runout = true ∧
        t.window.runouts =
          (if s.tilt.ch1.state = .tracking then min 65535 (s.window.runouts + 1) else s.window.runouts) ∧
        ∀ c, (t.channel c).state = .returning ∧
          StepsTo (s.lastDemand c) 0 (max 1 (s.params.returnRate * s.params.period / 1000)) (t.lastDemand c))

/-- An expiry changes the demand of a channel by no more than its step: the tracking step in TRACKING, the returning step
otherwise; and no step but an expiry and a power-on reset changes it, so that between two consecutive expiries it moves by
the step of the later one at most (R81). -/
def Obligations.DemandsMoveByOneStep : Prop :=
  (∀ (s t : State) (c : Channel), s.ModeLaw → s.params.Law → exec .controlPeriodExpiry s = .next t →
    ((t.channel c).state = .tracking → s.pins.rstN = true →
      ∃ g, s.expiryView.window.at s.nodeLookPoint = some g ∧
        ((t.lastDemand c - s.lastDemand c).natAbs : Int) ≤ max 1 (s.params.rollRate * s.params.period / 1000) ∧
        ∀ l, g.rateLimit = some l →
          ((t.lastDemand c - s.lastDemand c).natAbs : Int) ≤ max 1 ((l : Int) * s.params.period / 1000)) ∧
    ((t.channel c).state ≠ .tracking →
      ((t.lastDemand c - s.lastDemand c).natAbs : Int) ≤ max 1 (s.params.returnRate * s.params.period / 1000))) ∧
  ∀ (s t : State) (c : Channel), s.ModeLaw → step s = .next t →
    (∀ i rest, s.pending = i :: rest → i ≠ .controlPeriodExpiry ∧ i ≠ .resetAsserted ∧ ∀ x y, i ≠ .powerOnReset x y) →
    t.lastDemand c = s.lastDemand c

/-- No demand held and no DEMAND frame exceeds AUTHORITY in magnitude, and a frame that requests ENGAGE carries 0, through
every step (R79, R90). -/
def Obligations.StepsKeepTheDemandLaw : Prop :=
  ∀ s t : State, step s = .next t → s.DemandLaw → t.DemandLaw

/-! ## The drive link and the channels -/

/-- DEMAND_SENT, a missed exchange and its counting: the frame sent becomes the last sent demand and the window opens; a
window that closes or a frame with a defect of TABLE 5-III ends the exchange, counts a miss, and raises FEEDBACK with the
defect's code when the count meets its limit (R89 to R93). A DEMAND frame is five characters of ten bits, each with a
start bit at 0, eight data bits least significant first and a stop bit at 1, the last character the check of R169; a
received character reads the same way, and its stop bit at 0 is a framing error; the frame is on the line and DL_DIR high
exactly in SENDING (R90, R169, R171, TABLE 10-VI). -/
def Obligations.ExchangesAreSentAndMissed : Prop :=
  let code : ExchangeDefect → Nat := fun d =>
    match d with
    | .noReply => 1
    | .short => 2
    | .long => 3
    | .check => 4
    | .wrongDrive => 5
    | .stale => 6
  (∀ s : State, s.pins.rstN = true →
    (∀ f n, s.tilt.phase = .sending f n →
      ∃ t, exec .demandSent s = .next t ∧
        t = { s with tilt := { s.tilt with
          ch1 := t.tilt.ch1, ch2 := t.tilt.ch2, phase := .listening f, window := some 2000 } } ∧
        t.channel f.drive =
          { s.channel f.drive with lastSent := f.demand, sequence := (s.channel f.drive).sequence + 1 } ∧
        t.channel f.drive.other = s.channel f.drive.other) ∧
    ((∀ f n, s.tilt.phase ≠ .sending f n) → exec .demandSent s = .next s) ∧
    (∀ f d c, s.tilt.phase = .listening f →
      (c = .exchangeWindowClose ∧ d = .noReply ∨ ∃ chars, c = .feedbackFrame chars ∧ FrameDefect f chars d) →
      exec c s = .next
        (if ((s.channel f.drive).misses : Int) + 1 = s.params.feedbackMissLimit then
          (s.missed f d).raise .feedback (some f.drive) (code d)
        else s.missed f d)) ∧
    ((∀ f, s.tilt.phase ≠ .listening f) →
      exec .exchangeWindowClose s = .next s ∧ ∀ chars, exec (.feedbackFrame chars) s = .next s)) ∧
  (∀ f : DemandFrame,
    (∃ check, crc8 (f.chars.take 4) = check ∧ f.chars =
      [if f.drive = .CH1 then 1 else 2, f.sequence, BitVec.ofInt 8 f.demand, if f.lock = .engage then 1 else 2, check]) ∧
    f.line.length = 50 ∧
    ∀ i b, f.chars[i]? = some b →
      (f.line.drop (10 * i)).take 10 = [false] ++ (List.range 8).map (fun k => b.getLsbD k) ++ [true]) ∧
  (crc8 [49, 50, 51, 52, 53, 54, 55, 56, 57] = 0xF4#8 ∧ crc8 [] = 0 ∧
    ∀ (chars : List Byte) (b : Byte), crc8 (chars ++ [b]) =
      [7, 6, 5, 4, 3, 2, 1, 0].foldl
        (fun (reg : Byte) (k : Nat) => if b.getLsbD k = reg.getLsbD 7 then reg <<< 1 else (reg <<< 1) ^^^ 0x07#8)
        (crc8 chars)) ∧
  (∀ c : LineChar, c.line = [false] ++ (List.range 8).map (fun k => c.data.getLsbD k) ++ [!c.framingError]) ∧
  ∀ s : State,
    (∀ f n, s.tilt.phase = .sending f n → s.dlDir = true ∧ s.driveLine = f.line) ∧
    ((∀ f n, s.tilt.phase ≠ .sending f n) → s.dlDir = false ∧ s.driveLine = [])

/-- A good FEEDBACK without a new fault code, in the four states without tilt: the record is stored, the miss counter
cleared, and the lock state applied: the paired unlock, the lock, and LOCK_LOST (R94, R98, R99, R102, R104, R105, R118). -/
def Obligations.FeedbackLocksAndUnlocks : Prop :=
  ∀ (s : State) (f : DemandFrame) (angle : Half) (lock : LockState) (fault : Byte), s.pins.rstN = true →
    s.tilt.phase = .listening f → s.quietCode f.drive fault.toNat →
    let c := f.drive
    let u := s.afterFeedback f angle.toInt lock fault.toNat
    let partner := u.channel c.other
    let becomes := fun (t : State) => exec (.feedbackFrame (goodFrame f angle lock fault)) s = .next t
    ((s.channel c).state = .unlocking →
      (lock ≠ .released → becomes (u.setChannel c { u.channel c with mark := false })) ∧
      (lock = .released → ¬(partner.state = .unlocking ∧ partner.mark = true) →
        becomes (u.setChannel c { u.channel c with mark := true })) ∧
      (lock = .released → partner.state = .unlocking → partner.mark = true →
        becomes { u with
          tilt := { u.tilt with
            ch1 := { u.tilt.ch1 with state := .tracking, mark := false }
            ch2 := { u.tilt.ch2 with state := .tracking, mark := false } }
          node := { u.node with unlockTimer := none } })) ∧
    ((s.channel c).state = .locking ∨ (s.channel c).state = .failed →
      let locked := u.setChannel c { u.channel c with state := .locked, lockTimer := none }
      (lock ≠ .engaged → becomes u) ∧
      (lock = .engaged → s.node.state = .winddown → partner.state = .locked →
        becomes { locked with node := { s.node with state := .standby } }) ∧
      (lock = .engaged → ¬(s.node.state = .winddown ∧ partner.state = .locked) → becomes locked)) ∧
    ((s.channel c).state = .locked →
      (lock ≠ .released → becomes u) ∧
      (lock = .released → becomes ((u.startsLocking c).raise .lockLost (some c) 0)))

/-- A good FEEDBACK in TRACKING and RETURNING: a new fault code raises DRIVE, tracking supervision then counts the error
against TRACK_BAND and TRACK_PERSIST, and a channel then RETURNING in WINDDOWN or SAFE is centred (R94, R95, R100, R101,
R106, R107, R124). In the other states a new fault code raises DRIVE, and the lock state is then applied to the channel
state that the fault left (R94, R102, R104, R105); a channel is UNLOCKING only in ACTIVE (TABLE 6-II). -/
def Obligations.FeedbackIsSupervised : Prop :=
  ∀ (s : State) (f : DemandFrame) (angle : Half) (lock : LockState) (fault : Byte), s.pins.rstN = true →
    s.tilt.phase = .listening f →
    let c := f.drive
    let u := s.afterFeedback f angle.toInt lock fault.toNat
    let tested :=
      if fault.toNat = 0 ∨ fault.toNat = (s.channel c).faultCode then u else u.raise .drive (some c) fault.toNat
    let measured := min 32767 (s.turn angle.toInt)
    let error := (measured - s.turn (s.channel c).lastSent).natAbs
    let counted := tested.setChannel c { tested.channel c with
      persistence := if (error : Int) ≤ s.params.trackBand then 0 else min 255 ((s.channel c).persistence + 1) }
    let supervised :=
      if s.params.trackBand < error ∧ ((s.channel c).persistence : Int) + 1 = s.params.trackPersist then
        counted.raise .tracking (some c) (min 255 error)
      else counted
    let locked := tested.setChannel c { tested.channel c with state := .locked, lockTimer := none }
    let becomes := fun (t : State) => exec (.feedbackFrame (goodFrame f angle lock fault)) s = .next t
    ((s.channel c).state = .tracking ∨ (s.channel c).state = .returning →
      becomes
        (if (supervised.channel c).state = .returning ∧
            (supervised.node.state = .winddown ∨ supervised.node.state = .safe) ∧ f.demand = 0 ∧
            (measured.natAbs : Int) ≤ s.params.centreBand then supervised.startsLocking c
          else supervised)) ∧
    (¬s.quietCode c fault.toNat →
      ((s.channel c).state = .locked →
        (lock ≠ .released → becomes tested) ∧
        (lock = .released → becomes ((tested.startsLocking c).raise .lockLost (some c) 0))) ∧
      ((s.channel c).state = .unlocking → s.node.state = .active →
        (lock ≠ .engaged → becomes tested) ∧ (lock = .engaged → becomes locked)) ∧
      ((s.channel c).state = .locking ∨ (s.channel c).state = .failed →
        (lock ≠ .engaged → becomes tested) ∧ (lock = .engaged → becomes locked)))

/-- LOCK_TIMEOUT takes a LOCKING channel to FAILED and raises its fault with the held lock state; UNLOCK_TIMEOUT stops the
unlock timer and raises its fault with the marked channel; a stopped timer does nothing (R103, R122). -/
def Obligations.LockAndUnlockTimersExpire : Prop :=
  ∀ s : State, s.pins.rstN = true →
    (∀ c, (s.channel c).state = .locking → (s.channel c).lockTimer ≠ none →
      ∃ detail, exec (.lockTimeout c) s = .next
        ((s.setChannel c { s.channel c with state := .failed, lockTimer := none }).raise .lockTimeout (some c) detail) ∧
        ((s.channel c).feedback = none → detail = 0) ∧
        ∀ r, (s.channel c).feedback = some r →
          (r.lock = .engaged → detail = 1) ∧ (r.lock = .travelling → detail = 2) ∧ (r.lock = .released → detail = 3)) ∧
    (∀ c, (s.channel c).state ≠ .locking ∨ (s.channel c).lockTimer = none → exec (.lockTimeout c) s = .next s) ∧
    (s.node.unlockTimer ≠ none →
      ∃ detail, exec .unlockTimeout s = .next
        ({ s with node := { s.node with unlockTimer := none } }.raise .unlockTimeout none detail) ∧
        (s.tilt.ch1.mark = false → s.tilt.ch2.mark = false → detail = 0) ∧
        (s.tilt.ch1.mark = true → s.tilt.ch2.mark = false → detail = 1) ∧
        (s.tilt.ch1.mark = false → s.tilt.ch2.mark = true → detail = 2)) ∧
    (s.node.unlockTimer = none → exec .unlockTimeout s = .next s)

/-- Every law that the statements above keep holds of the state right after reset. -/
def Obligations.LawsHoldAtReset : Prop :=
  State.reset.trunk.Law ∧ State.reset.window.Law ∧ State.reset.tables.Law ∧ State.reset.params.Law ∧
  State.reset.odometry.Law ∧ State.reset.supervision.Law ∧ State.reset.ModeLaw ∧ State.reset.DemandLaw
end

