-- ==== Sys2Proof/Laws/State.lean ====
section
/-! SUPPORT. What each updater of Machine/Ops.lean does to each field of State: one lemma per field per updater, true by
`rfl`; and the same for a channel, a port, a transit queue and the parameters. -/

namespace Sys2Proof.Machine

@[simp] theorem State.setPins_pins (s : State) (x : Pins) : (s.setPins x).pins = x := rfl
@[simp] theorem State.setPins_trunk (s : State) (x : Pins) : (s.setPins x).trunk = s.trunk := rfl
@[simp] theorem State.setPins_window (s : State) (x : Pins) : (s.setPins x).window = s.window := rfl
@[simp] theorem State.setPins_tables (s : State) (x : Pins) : (s.setPins x).tables = s.tables := rfl
@[simp] theorem State.setPins_odometry (s : State) (x : Pins) : (s.setPins x).odometry = s.odometry := rfl
@[simp] theorem State.setPins_generator (s : State) (x : Pins) : (s.setPins x).generator = s.generator := rfl
@[simp] theorem State.setPins_tilt (s : State) (x : Pins) : (s.setPins x).tilt = s.tilt := rfl
@[simp] theorem State.setPins_node (s : State) (x : Pins) : (s.setPins x).node = s.node := rfl
@[simp] theorem State.setPins_supervision (s : State) (x : Pins) : (s.setPins x).supervision = s.supervision := rfl
@[simp] theorem State.setPins_freeCount (s : State) (x : Pins) : (s.setPins x).freeCount = s.freeCount := rfl
@[simp] theorem State.setPins_pending (s : State) (x : Pins) : (s.setPins x).pending = s.pending := rfl

@[simp] theorem State.setTrunk_pins (s : State) (x : Trunk) : (s.setTrunk x).pins = s.pins := rfl
@[simp] theorem State.setTrunk_trunk (s : State) (x : Trunk) : (s.setTrunk x).trunk = x := rfl
@[simp] theorem State.setTrunk_window (s : State) (x : Trunk) : (s.setTrunk x).window = s.window := rfl
@[simp] theorem State.setTrunk_tables (s : State) (x : Trunk) : (s.setTrunk x).tables = s.tables := rfl
@[simp] theorem State.setTrunk_odometry (s : State) (x : Trunk) : (s.setTrunk x).odometry = s.odometry := rfl
@[simp] theorem State.setTrunk_generator (s : State) (x : Trunk) : (s.setTrunk x).generator = s.generator := rfl
@[simp] theorem State.setTrunk_tilt (s : State) (x : Trunk) : (s.setTrunk x).tilt = s.tilt := rfl
@[simp] theorem State.setTrunk_node (s : State) (x : Trunk) : (s.setTrunk x).node = s.node := rfl
@[simp] theorem State.setTrunk_supervision (s : State) (x : Trunk) : (s.setTrunk x).supervision = s.supervision := rfl
@[simp] theorem State.setTrunk_freeCount (s : State) (x : Trunk) : (s.setTrunk x).freeCount = s.freeCount := rfl
@[simp] theorem State.setTrunk_pending (s : State) (x : Trunk) : (s.setTrunk x).pending = s.pending := rfl

@[simp] theorem State.setWindow_pins (s : State) (x : RouteWindow) : (s.setWindow x).pins = s.pins := rfl
@[simp] theorem State.setWindow_trunk (s : State) (x : RouteWindow) : (s.setWindow x).trunk = s.trunk := rfl
@[simp] theorem State.setWindow_window (s : State) (x : RouteWindow) : (s.setWindow x).window = x := rfl
@[simp] theorem State.setWindow_tables (s : State) (x : RouteWindow) : (s.setWindow x).tables = s.tables := rfl
@[simp] theorem State.setWindow_odometry (s : State) (x : RouteWindow) : (s.setWindow x).odometry = s.odometry := rfl
@[simp] theorem State.setWindow_generator (s : State) (x : RouteWindow) : (s.setWindow x).generator = s.generator := rfl
@[simp] theorem State.setWindow_tilt (s : State) (x : RouteWindow) : (s.setWindow x).tilt = s.tilt := rfl
@[simp] theorem State.setWindow_node (s : State) (x : RouteWindow) : (s.setWindow x).node = s.node := rfl
@[simp] theorem State.setWindow_supervision (s : State) (x : RouteWindow) : (s.setWindow x).supervision = s.supervision := rfl
@[simp] theorem State.setWindow_freeCount (s : State) (x : RouteWindow) : (s.setWindow x).freeCount = s.freeCount := rfl
@[simp] theorem State.setWindow_pending (s : State) (x : RouteWindow) : (s.setWindow x).pending = s.pending := rfl

@[simp] theorem State.setTables_pins (s : State) (x : Tables) : (s.setTables x).pins = s.pins := rfl
@[simp] theorem State.setTables_trunk (s : State) (x : Tables) : (s.setTables x).trunk = s.trunk := rfl
@[simp] theorem State.setTables_window (s : State) (x : Tables) : (s.setTables x).window = s.window := rfl
@[simp] theorem State.setTables_tables (s : State) (x : Tables) : (s.setTables x).tables = x := rfl
@[simp] theorem State.setTables_odometry (s : State) (x : Tables) : (s.setTables x).odometry = s.odometry := rfl
@[simp] theorem State.setTables_generator (s : State) (x : Tables) : (s.setTables x).generator = s.generator := rfl
@[simp] theorem State.setTables_tilt (s : State) (x : Tables) : (s.setTables x).tilt = s.tilt := rfl
@[simp] theorem State.setTables_node (s : State) (x : Tables) : (s.setTables x).node = s.node := rfl
@[simp] theorem State.setTables_supervision (s : State) (x : Tables) : (s.setTables x).supervision = s.supervision := rfl
@[simp] theorem State.setTables_freeCount (s : State) (x : Tables) : (s.setTables x).freeCount = s.freeCount := rfl
@[simp] theorem State.setTables_pending (s : State) (x : Tables) : (s.setTables x).pending = s.pending := rfl

@[simp] theorem State.setOdometry_pins (s : State) (x : Odometry) : (s.setOdometry x).pins = s.pins := rfl
@[simp] theorem State.setOdometry_trunk (s : State) (x : Odometry) : (s.setOdometry x).trunk = s.trunk := rfl
@[simp] theorem State.setOdometry_window (s : State) (x : Odometry) : (s.setOdometry x).window = s.window := rfl
@[simp] theorem State.setOdometry_tables (s : State) (x : Odometry) : (s.setOdometry x).tables = s.tables := rfl
@[simp] theorem State.setOdometry_odometry (s : State) (x : Odometry) : (s.setOdometry x).odometry = x := rfl
@[simp] theorem State.setOdometry_generator (s : State) (x : Odometry) : (s.setOdometry x).generator = s.generator := rfl
@[simp] theorem State.setOdometry_tilt (s : State) (x : Odometry) : (s.setOdometry x).tilt = s.tilt := rfl
@[simp] theorem State.setOdometry_node (s : State) (x : Odometry) : (s.setOdometry x).node = s.node := rfl
@[simp] theorem State.setOdometry_supervision (s : State) (x : Odometry) : (s.setOdometry x).supervision = s.supervision := rfl
@[simp] theorem State.setOdometry_freeCount (s : State) (x : Odometry) : (s.setOdometry x).freeCount = s.freeCount := rfl
@[simp] theorem State.setOdometry_pending (s : State) (x : Odometry) : (s.setOdometry x).pending = s.pending := rfl

@[simp] theorem State.setGenerator_pins (s : State) (x : Generator) : (s.setGenerator x).pins = s.pins := rfl
@[simp] theorem State.setGenerator_trunk (s : State) (x : Generator) : (s.setGenerator x).trunk = s.trunk := rfl
@[simp] theorem State.setGenerator_window (s : State) (x : Generator) : (s.setGenerator x).window = s.window := rfl
@[simp] theorem State.setGenerator_tables (s : State) (x : Generator) : (s.setGenerator x).tables = s.tables := rfl
@[simp] theorem State.setGenerator_odometry (s : State) (x : Generator) : (s.setGenerator x).odometry = s.odometry := rfl
@[simp] theorem State.setGenerator_generator (s : State) (x : Generator) : (s.setGenerator x).generator = x := rfl
@[simp] theorem State.setGenerator_tilt (s : State) (x : Generator) : (s.setGenerator x).tilt = s.tilt := rfl
@[simp] theorem State.setGenerator_node (s : State) (x : Generator) : (s.setGenerator x).node = s.node := rfl
@[simp] theorem State.setGenerator_supervision (s : State) (x : Generator) : (s.setGenerator x).supervision = s.supervision := rfl
@[simp] theorem State.setGenerator_freeCount (s : State) (x : Generator) : (s.setGenerator x).freeCount = s.freeCount := rfl
@[simp] theorem State.setGenerator_pending (s : State) (x : Generator) : (s.setGenerator x).pending = s.pending := rfl

@[simp] theorem State.setTilt_pins (s : State) (x : Tilt) : (s.setTilt x).pins = s.pins := rfl
@[simp] theorem State.setTilt_trunk (s : State) (x : Tilt) : (s.setTilt x).trunk = s.trunk := rfl
@[simp] theorem State.setTilt_window (s : State) (x : Tilt) : (s.setTilt x).window = s.window := rfl
@[simp] theorem State.setTilt_tables (s : State) (x : Tilt) : (s.setTilt x).tables = s.tables := rfl
@[simp] theorem State.setTilt_odometry (s : State) (x : Tilt) : (s.setTilt x).odometry = s.odometry := rfl
@[simp] theorem State.setTilt_generator (s : State) (x : Tilt) : (s.setTilt x).generator = s.generator := rfl
@[simp] theorem State.setTilt_tilt (s : State) (x : Tilt) : (s.setTilt x).tilt = x := rfl
@[simp] theorem State.setTilt_node (s : State) (x : Tilt) : (s.setTilt x).node = s.node := rfl
@[simp] theorem State.setTilt_supervision (s : State) (x : Tilt) : (s.setTilt x).supervision = s.supervision := rfl
@[simp] theorem State.setTilt_freeCount (s : State) (x : Tilt) : (s.setTilt x).freeCount = s.freeCount := rfl
@[simp] theorem State.setTilt_pending (s : State) (x : Tilt) : (s.setTilt x).pending = s.pending := rfl

@[simp] theorem State.setNode_pins (s : State) (x : NodeControl) : (s.setNode x).pins = s.pins := rfl
@[simp] theorem State.setNode_trunk (s : State) (x : NodeControl) : (s.setNode x).trunk = s.trunk := rfl
@[simp] theorem State.setNode_window (s : State) (x : NodeControl) : (s.setNode x).window = s.window := rfl
@[simp] theorem State.setNode_tables (s : State) (x : NodeControl) : (s.setNode x).tables = s.tables := rfl
@[simp] theorem State.setNode_odometry (s : State) (x : NodeControl) : (s.setNode x).odometry = s.odometry := rfl
@[simp] theorem State.setNode_generator (s : State) (x : NodeControl) : (s.setNode x).generator = s.generator := rfl
@[simp] theorem State.setNode_tilt (s : State) (x : NodeControl) : (s.setNode x).tilt = s.tilt := rfl
@[simp] theorem State.setNode_node (s : State) (x : NodeControl) : (s.setNode x).node = x := rfl
@[simp] theorem State.setNode_supervision (s : State) (x : NodeControl) : (s.setNode x).supervision = s.supervision := rfl
@[simp] theorem State.setNode_freeCount (s : State) (x : NodeControl) : (s.setNode x).freeCount = s.freeCount := rfl
@[simp] theorem State.setNode_pending (s : State) (x : NodeControl) : (s.setNode x).pending = s.pending := rfl

@[simp] theorem State.setSupervision_pins (s : State) (x : Supervision) : (s.setSupervision x).pins = s.pins := rfl
@[simp] theorem State.setSupervision_trunk (s : State) (x : Supervision) : (s.setSupervision x).trunk = s.trunk := rfl
@[simp] theorem State.setSupervision_window (s : State) (x : Supervision) : (s.setSupervision x).window = s.window := rfl
@[simp] theorem State.setSupervision_tables (s : State) (x : Supervision) : (s.setSupervision x).tables = s.tables := rfl
@[simp] theorem State.setSupervision_odometry (s : State) (x : Supervision) : (s.setSupervision x).odometry = s.odometry := rfl
@[simp] theorem State.setSupervision_generator (s : State) (x : Supervision) : (s.setSupervision x).generator = s.generator := rfl
@[simp] theorem State.setSupervision_tilt (s : State) (x : Supervision) : (s.setSupervision x).tilt = s.tilt := rfl
@[simp] theorem State.setSupervision_node (s : State) (x : Supervision) : (s.setSupervision x).node = s.node := rfl
@[simp] theorem State.setSupervision_supervision (s : State) (x : Supervision) : (s.setSupervision x).supervision = x := rfl
@[simp] theorem State.setSupervision_freeCount (s : State) (x : Supervision) : (s.setSupervision x).freeCount = s.freeCount := rfl
@[simp] theorem State.setSupervision_pending (s : State) (x : Supervision) : (s.setSupervision x).pending = s.pending := rfl

@[simp] theorem State.setFreeCount_pins (s : State) (x : Nat) : (s.setFreeCount x).pins = s.pins := rfl
@[simp] theorem State.setFreeCount_trunk (s : State) (x : Nat) : (s.setFreeCount x).trunk = s.trunk := rfl
@[simp] theorem State.setFreeCount_window (s : State) (x : Nat) : (s.setFreeCount x).window = s.window := rfl
@[simp] theorem State.setFreeCount_tables (s : State) (x : Nat) : (s.setFreeCount x).tables = s.tables := rfl
@[simp] theorem State.setFreeCount_odometry (s : State) (x : Nat) : (s.setFreeCount x).odometry = s.odometry := rfl
@[simp] theorem State.setFreeCount_generator (s : State) (x : Nat) : (s.setFreeCount x).generator = s.generator := rfl
@[simp] theorem State.setFreeCount_tilt (s : State) (x : Nat) : (s.setFreeCount x).tilt = s.tilt := rfl
@[simp] theorem State.setFreeCount_node (s : State) (x : Nat) : (s.setFreeCount x).node = s.node := rfl
@[simp] theorem State.setFreeCount_supervision (s : State) (x : Nat) : (s.setFreeCount x).supervision = s.supervision := rfl
@[simp] theorem State.setFreeCount_freeCount (s : State) (x : Nat) : (s.setFreeCount x).freeCount = x := rfl
@[simp] theorem State.setFreeCount_pending (s : State) (x : Nat) : (s.setFreeCount x).pending = s.pending := rfl

@[simp] theorem State.setPending_pins (s : State) (x : List Instr) : (s.setPending x).pins = s.pins := rfl
@[simp] theorem State.setPending_trunk (s : State) (x : List Instr) : (s.setPending x).trunk = s.trunk := rfl
@[simp] theorem State.setPending_window (s : State) (x : List Instr) : (s.setPending x).window = s.window := rfl
@[simp] theorem State.setPending_tables (s : State) (x : List Instr) : (s.setPending x).tables = s.tables := rfl
@[simp] theorem State.setPending_odometry (s : State) (x : List Instr) : (s.setPending x).odometry = s.odometry := rfl
@[simp] theorem State.setPending_generator (s : State) (x : List Instr) : (s.setPending x).generator = s.generator := rfl
@[simp] theorem State.setPending_tilt (s : State) (x : List Instr) : (s.setPending x).tilt = s.tilt := rfl
@[simp] theorem State.setPending_node (s : State) (x : List Instr) : (s.setPending x).node = s.node := rfl
@[simp] theorem State.setPending_supervision (s : State) (x : List Instr) : (s.setPending x).supervision = s.supervision := rfl
@[simp] theorem State.setPending_freeCount (s : State) (x : List Instr) : (s.setPending x).freeCount = s.freeCount := rfl
@[simp] theorem State.setPending_pending (s : State) (x : List Instr) : (s.setPending x).pending = x := rfl

@[simp] theorem State.setParams_params (s : State) (p : Params) : (s.setParams p).params = p := rfl
@[simp] theorem State.setNode_params (s : State) (x : NodeControl) : (s.setNode x).params = x.params := rfl

@[simp] theorem State.setParams_pins (s : State) (p : Params) : (s.setParams p).pins = s.pins := rfl
@[simp] theorem State.setNodeState_pins (s : State) (n : NodeState) : (s.setNodeState n).pins = s.pins := rfl
@[simp] theorem State.setUnlockTimer_pins (s : State) (t : Option Nat) : (s.setUnlockTimer t).pins = s.pins := rfl
@[simp] theorem State.setParams_trunk (s : State) (p : Params) : (s.setParams p).trunk = s.trunk := rfl
@[simp] theorem State.setNodeState_trunk (s : State) (n : NodeState) : (s.setNodeState n).trunk = s.trunk := rfl
@[simp] theorem State.setUnlockTimer_trunk (s : State) (t : Option Nat) : (s.setUnlockTimer t).trunk = s.trunk := rfl
@[simp] theorem State.setParams_window (s : State) (p : Params) : (s.setParams p).window = s.window := rfl
@[simp] theorem State.setNodeState_window (s : State) (n : NodeState) : (s.setNodeState n).window = s.window := rfl
@[simp] theorem State.setUnlockTimer_window (s : State) (t : Option Nat) : (s.setUnlockTimer t).window = s.window := rfl
@[simp] theorem State.setParams_tables (s : State) (p : Params) : (s.setParams p).tables = s.tables := rfl
@[simp] theorem State.setNodeState_tables (s : State) (n : NodeState) : (s.setNodeState n).tables = s.tables := rfl
@[simp] theorem State.setUnlockTimer_tables (s : State) (t : Option Nat) : (s.setUnlockTimer t).tables = s.tables := rfl
@[simp] theorem State.setParams_odometry (s : State) (p : Params) : (s.setParams p).odometry = s.odometry := rfl
@[simp] theorem State.setNodeState_odometry (s : State) (n : NodeState) : (s.setNodeState n).odometry = s.odometry := rfl
@[simp] theorem State.setUnlockTimer_odometry (s : State) (t : Option Nat) : (s.setUnlockTimer t).odometry = s.odometry := rfl
@[simp] theorem State.setParams_generator (s : State) (p : Params) : (s.setParams p).generator = s.generator := rfl
@[simp] theorem State.setNodeState_generator (s : State) (n : NodeState) : (s.setNodeState n).generator = s.generator := rfl
@[simp] theorem State.setUnlockTimer_generator (s : State) (t : Option Nat) : (s.setUnlockTimer t).generator = s.generator := rfl
@[simp] theorem State.setParams_tilt (s : State) (p : Params) : (s.setParams p).tilt = s.tilt := rfl
@[simp] theorem State.setNodeState_tilt (s : State) (n : NodeState) : (s.setNodeState n).tilt = s.tilt := rfl
@[simp] theorem State.setUnlockTimer_tilt (s : State) (t : Option Nat) : (s.setUnlockTimer t).tilt = s.tilt := rfl
@[simp] theorem State.setParams_node (s : State) (p : Params) : (s.setParams p).node = { s.node with params := p } := rfl
@[simp] theorem State.setNodeState_node (s : State) (n : NodeState) : (s.setNodeState n).node = { s.node with state := n } := rfl
@[simp] theorem State.setUnlockTimer_node (s : State) (t : Option Nat) :
    (s.setUnlockTimer t).node = { s.node with unlockTimer := t } := rfl
@[simp] theorem State.setParams_supervision (s : State) (p : Params) : (s.setParams p).supervision = s.supervision := rfl
@[simp] theorem State.setNodeState_supervision (s : State) (n : NodeState) : (s.setNodeState n).supervision = s.supervision := rfl
@[simp] theorem State.setUnlockTimer_supervision (s : State) (t : Option Nat) : (s.setUnlockTimer t).supervision = s.supervision := rfl
@[simp] theorem State.setParams_freeCount (s : State) (p : Params) : (s.setParams p).freeCount = s.freeCount := rfl
@[simp] theorem State.setNodeState_freeCount (s : State) (n : NodeState) : (s.setNodeState n).freeCount = s.freeCount := rfl
@[simp] theorem State.setUnlockTimer_freeCount (s : State) (t : Option Nat) : (s.setUnlockTimer t).freeCount = s.freeCount := rfl
@[simp] theorem State.setParams_pending (s : State) (p : Params) : (s.setParams p).pending = s.pending := rfl
@[simp] theorem State.setNodeState_pending (s : State) (n : NodeState) : (s.setNodeState n).pending = s.pending := rfl
@[simp] theorem State.setUnlockTimer_pending (s : State) (t : Option Nat) : (s.setUnlockTimer t).pending = s.pending := rfl

@[simp] theorem State.params_setPins (s : State) (x) : (s.setPins x).params = s.params := rfl
@[simp] theorem State.params_setTrunk (s : State) (x) : (s.setTrunk x).params = s.params := rfl
@[simp] theorem State.params_setWindow (s : State) (x) : (s.setWindow x).params = s.params := rfl
@[simp] theorem State.params_setTables (s : State) (x) : (s.setTables x).params = s.params := rfl
@[simp] theorem State.params_setOdometry (s : State) (x) : (s.setOdometry x).params = s.params := rfl
@[simp] theorem State.params_setGenerator (s : State) (x) : (s.setGenerator x).params = s.params := rfl
@[simp] theorem State.params_setTilt (s : State) (x) : (s.setTilt x).params = s.params := rfl
@[simp] theorem State.params_setSupervision (s : State) (x) : (s.setSupervision x).params = s.params := rfl
@[simp] theorem State.params_setFreeCount (s : State) (x) : (s.setFreeCount x).params = s.params := rfl
@[simp] theorem State.params_setPending (s : State) (x) : (s.setPending x).params = s.params := rfl
@[simp] theorem State.setNodeState_params (s : State) (n : NodeState) : (s.setNodeState n).params = s.params := rfl
@[simp] theorem State.setUnlockTimer_params (s : State) (t : Option Nat) : (s.setUnlockTimer t).params = s.params := rfl

/-! ## Channels -/

@[simp] theorem State.setChannel_pins (s : State) (c : Channel) (x : TiltChannel) : (s.setChannel c x).pins = s.pins := by
  cases c <;> rfl
@[simp] theorem State.setChannel_trunk (s : State) (c : Channel) (x : TiltChannel) : (s.setChannel c x).trunk = s.trunk := by
  cases c <;> rfl
@[simp] theorem State.setChannel_window (s : State) (c : Channel) (x : TiltChannel) : (s.setChannel c x).window = s.window := by
  cases c <;> rfl
@[simp] theorem State.setChannel_tables (s : State) (c : Channel) (x : TiltChannel) : (s.setChannel c x).tables = s.tables := by
  cases c <;> rfl
@[simp] theorem State.setChannel_odometry (s : State) (c : Channel) (x : TiltChannel) : (s.setChannel c x).odometry = s.odometry := by
  cases c <;> rfl
@[simp] theorem State.setChannel_generator (s : State) (c : Channel) (x : TiltChannel) : (s.setChannel c x).generator = s.generator := by
  cases c <;> rfl
@[simp] theorem State.setChannel_node (s : State) (c : Channel) (x : TiltChannel) : (s.setChannel c x).node = s.node := by
  cases c <;> rfl
@[simp] theorem State.setChannel_supervision (s : State) (c : Channel) (x : TiltChannel) : (s.setChannel c x).supervision = s.supervision := by
  cases c <;> rfl
@[simp] theorem State.setChannel_freeCount (s : State) (c : Channel) (x : TiltChannel) : (s.setChannel c x).freeCount = s.freeCount := by
  cases c <;> rfl
@[simp] theorem State.setChannel_pending (s : State) (c : Channel) (x : TiltChannel) : (s.setChannel c x).pending = s.pending := by
  cases c <;> rfl
@[simp] theorem State.setChannel_params (s : State) (c : Channel) (x : TiltChannel) :
    (s.setChannel c x).params = s.params := by
  cases c <;> rfl
@[simp] theorem State.setChannel_phase (s : State) (c : Channel) (x : TiltChannel) :
    (s.setChannel c x).tilt.phase = s.tilt.phase := by
  cases c <;> rfl
@[simp] theorem State.setChannel_waiting (s : State) (c : Channel) (x : TiltChannel) :
    (s.setChannel c x).tilt.waiting = s.tilt.waiting := by
  cases c <;> rfl
@[simp] theorem State.setChannel_exchangeWindow (s : State) (c : Channel) (x : TiltChannel) :
    (s.setChannel c x).tilt.window = s.tilt.window := by
  cases c <;> rfl
@[simp] theorem State.channel_setChannel (s : State) (c : Channel) (x : TiltChannel) : (s.setChannel c x).channel c = x := by
  cases c <;> rfl
@[simp] theorem State.channel_setChannel_other (s : State) (c : Channel) (x : TiltChannel) :
    (s.setChannel c x).channel c.other = s.channel c.other := by
  cases c <;> rfl
@[simp] theorem Channel.other_other (c : Channel) : c.other.other = c := by
  cases c <;> rfl
@[simp] theorem State.channel_CH1 (s : State) : s.channel .CH1 = s.tilt.ch1 := rfl
@[simp] theorem State.channel_CH2 (s : State) : s.channel .CH2 = s.tilt.ch2 := rfl
@[simp] theorem State.lastDemand_CH1 (s : State) : s.lastDemand .CH1 = s.generator.last1 := rfl
@[simp] theorem State.lastDemand_CH2 (s : State) : s.lastDemand .CH2 = s.generator.last2 := rfl

/-! ## Ports and transit queues -/

@[simp] theorem Port.other_other (p : Port) : p.other.other = p := by
  cases p <;> rfl
@[simp] theorem Trunk.port_setPort (t : Trunk) (p : Port) (x : PortState) : (t.setPort p x).port p = x := by
  cases p <;> rfl
@[simp] theorem Trunk.port_setPort_other (t : Trunk) (p : Port) (x : PortState) :
    (t.setPort p x).port p.other = t.port p.other := by
  cases p <;> rfl
@[simp] theorem Trunk.queue_setPort (t : Trunk) (p q : Port) (x : PortState) : (t.setPort p x).queue q = t.queue q := by
  cases p <;> cases q <;> rfl
@[simp] theorem Trunk.queue_setQueue (t : Trunk) (p : Port) (x : List Telegram) : (t.setQueue p x).queue p = x := by
  cases p <;> rfl
@[simp] theorem Trunk.queue_setQueue_other (t : Trunk) (p : Port) (x : List Telegram) :
    (t.setQueue p x).queue p.other = t.queue p.other := by
  cases p <;> rfl
@[simp] theorem Trunk.port_setQueue (t : Trunk) (p q : Port) (x : List Telegram) : (t.setQueue p x).port q = t.port q := by
  cases p <;> cases q <;> rfl
@[simp] theorem Trunk.setPort_headPort (t : Trunk) (p : Port) (x : PortState) : (t.setPort p x).headPort = t.headPort := by
  cases p <;> rfl
@[simp] theorem Trunk.setQueue_headPort (t : Trunk) (p : Port) (x : List Telegram) : (t.setQueue p x).headPort = t.headPort := by
  cases p <;> rfl
@[simp] theorem Trunk.setPort_address (t : Trunk) (p : Port) (x : PortState) : (t.setPort p x).address = t.address := by
  cases p <;> rfl
@[simp] theorem Trunk.setQueue_address (t : Trunk) (p : Port) (x : List Telegram) : (t.setQueue p x).address = t.address := by
  cases p <;> rfl
@[simp] theorem Trunk.setPort_own (t : Trunk) (p : Port) (x : PortState) : (t.setPort p x).own = t.own := by
  cases p <;> rfl
@[simp] theorem Trunk.setQueue_own (t : Trunk) (p : Port) (x : List Telegram) : (t.setQueue p x).own = t.own := by
  cases p <;> rfl
@[simp] theorem Trunk.setPort_arbiter (t : Trunk) (p : Port) (x : PortState) : (t.setPort p x).arbiter = t.arbiter := by
  cases p <;> rfl
@[simp] theorem Trunk.setQueue_arbiter (t : Trunk) (p : Port) (x : List Telegram) : (t.setQueue p x).arbiter = t.arbiter := by
  cases p <;> rfl
@[simp] theorem Trunk.setPort_ownDrops (t : Trunk) (p : Port) (x : PortState) : (t.setPort p x).ownDrops = t.ownDrops := by
  cases p <;> rfl
@[simp] theorem Trunk.setQueue_ownDrops (t : Trunk) (p : Port) (x : List Telegram) : (t.setQueue p x).ownDrops = t.ownDrops := by
  cases p <;> rfl

end Sys2Proof.Machine
end

