-- ==== Sys2Proof/Laws/Frames.lean ====
section
/-! SUPPORT. Frames of the shared operations: for each operation, the blocks of State that it leaves unchanged, so that no
proof about one block unfolds an operation on another. -/

namespace Sys2Proof.Machine

@[simp] theorem State.requestAlert_frame (s : State) (cls : FaultClass) :
    (s.requestAlert cls).pins = s.pins ∧ (s.requestAlert cls).window = s.window ∧
    (s.requestAlert cls).tables = s.tables ∧ (s.requestAlert cls).odometry = s.odometry ∧
    (s.requestAlert cls).generator = s.generator ∧ (s.requestAlert cls).tilt = s.tilt ∧
    (s.requestAlert cls).node = s.node ∧ (s.requestAlert cls).supervision = s.supervision ∧
    (s.requestAlert cls).freeCount = s.freeCount ∧ (s.requestAlert cls).pending = s.pending ∧
    (s.requestAlert cls).params = s.params := by
  unfold State.requestAlert
  try dsimp only
  (repeat' split) <;> simp [State.params]

@[simp] theorem State.standDown_frame (s : State) (n : NodeState) :
    (s.standDown n).pins = s.pins ∧ (s.standDown n).trunk = s.trunk ∧ (s.standDown n).window = s.window ∧
    (s.standDown n).tables = s.tables ∧ (s.standDown n).odometry = s.odometry ∧
    (s.standDown n).supervision = s.supervision ∧ (s.standDown n).freeCount = s.freeCount ∧
    (s.standDown n).pending = s.pending ∧ (s.standDown n).params = s.params := by
  unfold State.standDown
  try dsimp only
  (repeat' split) <;> simp [State.params]

@[simp] theorem State.stop_frame (s : State) :
    (s.stop).pins = s.pins ∧ (s.stop).trunk = s.trunk ∧ (s.stop).window = s.window ∧ (s.stop).tables = s.tables ∧
    (s.stop).odometry = s.odometry ∧ (s.stop).supervision = s.supervision ∧ (s.stop).freeCount = s.freeCount ∧
    (s.stop).pending = s.pending ∧ (s.stop).params = s.params := by
  unfold State.stop
  try dsimp only
  (repeat' split) <;> simp

@[simp] theorem State.raise_frame (s : State) (cls : FaultClass) (ch : Option Channel) (d : Nat) :
    (s.raise cls ch d).pins = s.pins ∧ (s.raise cls ch d).window = s.window ∧ (s.raise cls ch d).tables = s.tables ∧
    (s.raise cls ch d).odometry = s.odometry ∧ (s.raise cls ch d).freeCount = s.freeCount ∧
    (s.raise cls ch d).pending = s.pending ∧ (s.raise cls ch d).params = s.params := by
  unfold State.raise
  try dsimp only
  (repeat' split) <;> simp

@[simp] theorem State.ack_frame (s : State) (k : Byte) (tag : Half) (r : Byte) (d : Option Nat) :
    (s.ack k tag r d).pins = s.pins ∧ (s.ack k tag r d).window = s.window ∧ (s.ack k tag r d).tables = s.tables ∧
    (s.ack k tag r d).odometry = s.odometry ∧ (s.ack k tag r d).generator = s.generator ∧
    (s.ack k tag r d).tilt = s.tilt ∧ (s.ack k tag r d).node = s.node ∧
    (s.ack k tag r d).supervision = s.supervision ∧ (s.ack k tag r d).freeCount = s.freeCount ∧
    (s.ack k tag r d).pending = s.pending ∧ (s.ack k tag r d).params = s.params := by
  unfold State.ack
  try dsimp only
  (repeat' split) <;> simp [State.params]

@[simp] theorem State.report_frame (s : State) (k : Byte) (tag : Half) (r : Byte) (d : Option Nat) (bs : List Byte) :
    (s.report k tag r d bs).pins = s.pins ∧ (s.report k tag r d bs).window = s.window ∧
    (s.report k tag r d bs).tables = s.tables ∧ (s.report k tag r d bs).odometry = s.odometry ∧
    (s.report k tag r d bs).generator = s.generator ∧ (s.report k tag r d bs).tilt = s.tilt ∧
    (s.report k tag r d bs).node = s.node ∧ (s.report k tag r d bs).supervision = s.supervision ∧
    (s.report k tag r d bs).freeCount = s.freeCount ∧ (s.report k tag r d bs).pending = s.pending ∧
    (s.report k tag r d bs).params = s.params := by
  unfold State.report
  try dsimp only
  (repeat' split) <;> simp [State.params]

@[simp] theorem State.ackCommand_frame (s : State) (tag : Half) (r : Byte) (d : Option Nat) :
    (s.ackCommand tag r d).pins = s.pins ∧ (s.ackCommand tag r d).window = s.window ∧
    (s.ackCommand tag r d).tables = s.tables ∧ (s.ackCommand tag r d).odometry = s.odometry ∧
    (s.ackCommand tag r d).generator = s.generator ∧ (s.ackCommand tag r d).tilt = s.tilt ∧
    (s.ackCommand tag r d).node = s.node ∧ (s.ackCommand tag r d).supervision = s.supervision ∧
    (s.ackCommand tag r d).freeCount = s.freeCount ∧ (s.ackCommand tag r d).pending = s.pending ∧
    (s.ackCommand tag r d).params = s.params := by
  unfold State.ackCommand
  try dsimp only
  (repeat' split) <;> simp [State.params]

@[simp] theorem State.reportOk_frame (s : State) (k : Byte) (tag : Half) (bs : List Byte) :
    (s.reportOk k tag bs).pins = s.pins ∧ (s.reportOk k tag bs).window = s.window ∧
    (s.reportOk k tag bs).tables = s.tables ∧ (s.reportOk k tag bs).odometry = s.odometry ∧
    (s.reportOk k tag bs).generator = s.generator ∧ (s.reportOk k tag bs).tilt = s.tilt ∧
    (s.reportOk k tag bs).node = s.node ∧ (s.reportOk k tag bs).supervision = s.supervision ∧
    (s.reportOk k tag bs).freeCount = s.freeCount ∧ (s.reportOk k tag bs).pending = s.pending ∧
    (s.reportOk k tag bs).params = s.params := by
  unfold State.reportOk
  try dsimp only
  (repeat' split) <;> simp [State.params]

@[simp] theorem State.count_frame (s : State) (b : Bool) :
    (s.count b).pins = s.pins ∧ (s.count b).trunk = s.trunk ∧ (s.count b).window = s.window ∧
    (s.count b).tables = s.tables ∧ (s.count b).generator = s.generator ∧ (s.count b).tilt = s.tilt ∧
    (s.count b).node = s.node ∧ (s.count b).supervision = s.supervision ∧ (s.count b).freeCount = s.freeCount ∧
    (s.count b).pending = s.pending ∧ (s.count b).params = s.params := by
  unfold State.count
  try dsimp only
  (repeat' split) <;> simp [State.params]

@[simp] theorem State.setPhase_frame (s : State) (p : Bool × Bool) :
    (s.setPhase p).pins = s.pins ∧ (s.setPhase p).trunk = s.trunk ∧ (s.setPhase p).window = s.window ∧
    (s.setPhase p).tables = s.tables ∧ (s.setPhase p).generator = s.generator ∧ (s.setPhase p).tilt = s.tilt ∧
    (s.setPhase p).node = s.node ∧ (s.setPhase p).supervision = s.supervision ∧
    (s.setPhase p).freeCount = s.freeCount ∧ (s.setPhase p).pending = s.pending ∧
    (s.setPhase p).params = s.params := by
  unfold State.setPhase
  try dsimp only
  (repeat' split) <;> simp [State.params]

@[simp] theorem State.phaseFault_frame (s : State) :
    (s.phaseFault).pins = s.pins ∧ (s.phaseFault).window = s.window ∧ (s.phaseFault).tables = s.tables ∧
    (s.phaseFault).freeCount = s.freeCount ∧ (s.phaseFault).pending = s.pending ∧
    (s.phaseFault).params = s.params := by
  unfold State.phaseFault
  try dsimp only
  (repeat' split) <;> simp

@[simp] theorem State.sampleTach_frame (s : State) (p : Bool × Bool) :
    (s.sampleTach p).pins = s.pins ∧ (s.sampleTach p).window = s.window ∧ (s.sampleTach p).tables = s.tables ∧
    (s.sampleTach p).freeCount = s.freeCount ∧ (s.sampleTach p).pending = s.pending ∧
    (s.sampleTach p).params = s.params := by
  unfold State.sampleTach
  try dsimp only
  (repeat' split) <;> simp

@[simp] theorem State.restartLiveness_frame (s : State) :
    (s.restartLiveness).pins = s.pins ∧ (s.restartLiveness).trunk = s.trunk ∧
    (s.restartLiveness).window = s.window ∧ (s.restartLiveness).tables = s.tables ∧
    (s.restartLiveness).odometry = s.odometry ∧ (s.restartLiveness).generator = s.generator ∧
    (s.restartLiveness).tilt = s.tilt ∧ (s.restartLiveness).node = s.node ∧
    (s.restartLiveness).freeCount = s.freeCount ∧ (s.restartLiveness).pending = s.pending ∧
    (s.restartLiveness).params = s.params := by
  unfold State.restartLiveness
  try dsimp only
  (repeat' split) <;> simp [State.params]

@[simp] theorem State.acceptPosition_frame (s : State) (b : PositionBody) (d : Direction) :
    (s.acceptPosition b d).pins = s.pins ∧ (s.acceptPosition b d).trunk = s.trunk ∧
    (s.acceptPosition b d).window = s.window ∧ (s.acceptPosition b d).tables = s.tables ∧
    (s.acceptPosition b d).generator = s.generator ∧ (s.acceptPosition b d).tilt = s.tilt ∧
    (s.acceptPosition b d).node = s.node ∧ (s.acceptPosition b d).freeCount = s.freeCount ∧
    (s.acceptPosition b d).pending = s.pending ∧ (s.acceptPosition b d).params = s.params := by
  unfold State.acceptPosition
  try dsimp only
  (repeat' split) <;> simp [State.params]

@[simp] theorem State.setPosition_frame (s : State) (q : Int) :
    (s.setPosition q).pins = s.pins ∧ (s.setPosition q).trunk = s.trunk ∧ (s.setPosition q).window = s.window ∧
    (s.setPosition q).tables = s.tables ∧ (s.setPosition q).generator = s.generator ∧
    (s.setPosition q).tilt = s.tilt ∧ (s.setPosition q).node = s.node ∧
    (s.setPosition q).supervision = s.supervision ∧ (s.setPosition q).freeCount = s.freeCount ∧
    (s.setPosition q).pending = s.pending ∧ (s.setPosition q).params = s.params := by
  unfold State.setPosition
  try dsimp only
  (repeat' split) <;> simp [State.params]

@[simp] theorem State.activateFactor_frame (s : State) :
    (s.activateFactor).pins = s.pins ∧ (s.activateFactor).trunk = s.trunk ∧ (s.activateFactor).window = s.window ∧
    (s.activateFactor).tables = s.tables ∧ (s.activateFactor).generator = s.generator ∧
    (s.activateFactor).tilt = s.tilt ∧ (s.activateFactor).supervision = s.supervision ∧
    (s.activateFactor).freeCount = s.freeCount ∧ (s.activateFactor).pending = s.pending := by
  unfold State.activateFactor
  try dsimp only
  (repeat' split) <;> simp

@[simp] theorem State.discrepancy_frame (s : State) :
    (s.discrepancy).pins = s.pins ∧ (s.discrepancy).window = s.window ∧ (s.discrepancy).tables = s.tables ∧
    (s.discrepancy).freeCount = s.freeCount ∧ (s.discrepancy).pending = s.pending ∧
    (s.discrepancy).params = s.params := by
  unfold State.discrepancy
  try dsimp only
  (repeat' split) <;> simp

@[simp] theorem State.updatePosition_frame (s : State) (q : Int) (fix : Bool) :
    (s.updatePosition q fix).pins = s.pins ∧ (s.updatePosition q fix).window = s.window ∧
    (s.updatePosition q fix).tables = s.tables ∧ (s.updatePosition q fix).freeCount = s.freeCount ∧
    (s.updatePosition q fix).pending = s.pending := by
  unfold State.updatePosition
  try dsimp only
  (repeat' split) <;> simp

@[simp] theorem State.applyPosition_frame (s : State) (b : PositionBody) (d : Direction) :
    (s.applyPosition b d).pins = s.pins ∧ (s.applyPosition b d).window = s.window ∧
    (s.applyPosition b d).tables = s.tables ∧ (s.applyPosition b d).freeCount = s.freeCount ∧
    (s.applyPosition b d).pending = s.pending := by
  unfold State.applyPosition
  try dsimp only
  (repeat' split) <;> simp

@[simp] theorem State.loseAlignment_frame (s : State) :
    (s.loseAlignment).pins = s.pins ∧ (s.loseAlignment).trunk = s.trunk ∧ (s.loseAlignment).window = s.window ∧
    (s.loseAlignment).tables = s.tables ∧ (s.loseAlignment).generator = s.generator ∧
    (s.loseAlignment).tilt = s.tilt ∧ (s.loseAlignment).node = s.node ∧
    (s.loseAlignment).supervision = s.supervision ∧ (s.loseAlignment).freeCount = s.freeCount ∧
    (s.loseAlignment).pending = s.pending ∧ (s.loseAlignment).params = s.params := by
  unfold State.loseAlignment
  try dsimp only
  (repeat' split) <;> simp [State.params]

@[simp] theorem State.refuseSegment_frame (s : State) (r : RefusalReason) (id : Nat) :
    (s.refuseSegment r id).pins = s.pins ∧ (s.refuseSegment r id).tables = s.tables ∧
    (s.refuseSegment r id).odometry = s.odometry ∧ (s.refuseSegment r id).freeCount = s.freeCount ∧
    (s.refuseSegment r id).pending = s.pending ∧ (s.refuseSegment r id).params = s.params := by
  unfold State.refuseSegment
  try dsimp only
  (repeat' split) <;> simp

@[simp] theorem State.appendSegment_frame (s : State) (g : Segment) :
    (s.appendSegment g).pins = s.pins ∧ (s.appendSegment g).trunk = s.trunk ∧
    (s.appendSegment g).tables = s.tables ∧ (s.appendSegment g).odometry = s.odometry ∧
    (s.appendSegment g).generator = s.generator ∧ (s.appendSegment g).tilt = s.tilt ∧
    (s.appendSegment g).node = s.node ∧ (s.appendSegment g).supervision = s.supervision ∧
    (s.appendSegment g).freeCount = s.freeCount ∧ (s.appendSegment g).pending = s.pending ∧
    (s.appendSegment g).params = s.params := by
  unfold State.appendSegment
  try dsimp only
  (repeat' split) <;> simp [State.params]

@[simp] theorem State.retire_frame (s : State) :
    (s.retire).pins = s.pins ∧ (s.retire).trunk = s.trunk ∧ (s.retire).tables = s.tables ∧
    (s.retire).odometry = s.odometry ∧ (s.retire).generator = s.generator ∧ (s.retire).tilt = s.tilt ∧
    (s.retire).node = s.node ∧ (s.retire).supervision = s.supervision ∧ (s.retire).freeCount = s.freeCount ∧
    (s.retire).pending = s.pending ∧ (s.retire).params = s.params := by
  unfold State.retire
  try dsimp only
  (repeat' split) <;> simp [State.params]

@[simp] theorem State.startPeriod_frame (s : State) :
    (s.startPeriod).pins = s.pins ∧ (s.startPeriod).trunk = s.trunk ∧ (s.startPeriod).window = s.window ∧
    (s.startPeriod).tables = s.tables ∧ (s.startPeriod).odometry = s.odometry ∧ (s.startPeriod).tilt = s.tilt ∧
    (s.startPeriod).node = s.node ∧ (s.startPeriod).supervision = s.supervision ∧
    (s.startPeriod).freeCount = s.freeCount ∧ (s.startPeriod).pending = s.pending ∧
    (s.startPeriod).params = s.params := by
  unfold State.startPeriod
  try dsimp only
  (repeat' split) <;> simp [State.params]

@[simp] theorem State.completeSwap_frame (s : State) :
    (s.completeSwap).pins = s.pins ∧ (s.completeSwap).trunk = s.trunk ∧ (s.completeSwap).window = s.window ∧
    (s.completeSwap).odometry = s.odometry ∧ (s.completeSwap).generator = s.generator ∧
    (s.completeSwap).tilt = s.tilt ∧ (s.completeSwap).node = s.node ∧ (s.completeSwap).supervision = s.supervision ∧
    (s.completeSwap).freeCount = s.freeCount ∧ (s.completeSwap).pending = s.pending ∧
    (s.completeSwap).params = s.params := by
  unfold State.completeSwap
  try dsimp only
  (repeat' split) <;> simp [State.params]

@[simp] theorem State.setDemands_frame (s : State) (d1 d2 : Int) :
    (s.setDemands d1 d2).pins = s.pins ∧ (s.setDemands d1 d2).trunk = s.trunk ∧
    (s.setDemands d1 d2).window = s.window ∧ (s.setDemands d1 d2).tables = s.tables ∧
    (s.setDemands d1 d2).odometry = s.odometry ∧ (s.setDemands d1 d2).tilt = s.tilt ∧
    (s.setDemands d1 d2).node = s.node ∧ (s.setDemands d1 d2).supervision = s.supervision ∧
    (s.setDemands d1 d2).freeCount = s.freeCount ∧ (s.setDemands d1 d2).pending = s.pending ∧
    (s.setDemands d1 d2).params = s.params := by
  unfold State.setDemands
  try dsimp only
  (repeat' split) <;> simp [State.params]

@[simp] theorem State.setPair_frame (s : State) (x : ChannelState) (r : Bool) :
    (s.setPair x r).pins = s.pins ∧ (s.setPair x r).trunk = s.trunk ∧ (s.setPair x r).window = s.window ∧
    (s.setPair x r).tables = s.tables ∧ (s.setPair x r).odometry = s.odometry ∧ (s.setPair x r).node = s.node ∧
    (s.setPair x r).supervision = s.supervision ∧ (s.setPair x r).freeCount = s.freeCount ∧
    (s.setPair x r).pending = s.pending ∧ (s.setPair x r).params = s.params := by
  unfold State.setPair
  try dsimp only
  (repeat' split) <;> simp [State.params]

@[simp] theorem State.trackPair_frame (s : State) :
    (s.trackPair).pins = s.pins ∧ (s.trackPair).trunk = s.trunk ∧ (s.trackPair).window = s.window ∧
    (s.trackPair).tables = s.tables ∧ (s.trackPair).odometry = s.odometry ∧ (s.trackPair).node = s.node ∧
    (s.trackPair).supervision = s.supervision ∧ (s.trackPair).freeCount = s.freeCount ∧
    (s.trackPair).pending = s.pending ∧ (s.trackPair).params = s.params := by
  unfold State.trackPair
  try dsimp only
  (repeat' split) <;> simp [State.params]

@[simp] theorem State.returnPair_frame (s : State) :
    (s.returnPair).pins = s.pins ∧ (s.returnPair).trunk = s.trunk ∧ (s.returnPair).window = s.window ∧
    (s.returnPair).tables = s.tables ∧ (s.returnPair).odometry = s.odometry ∧ (s.returnPair).node = s.node ∧
    (s.returnPair).supervision = s.supervision ∧ (s.returnPair).freeCount = s.freeCount ∧
    (s.returnPair).pending = s.pending ∧ (s.returnPair).params = s.params := by
  unfold State.returnPair
  try dsimp only
  (repeat' split) <;> simp [State.params]

@[simp] theorem State.countRunout_frame (s : State) :
    (s.countRunout).pins = s.pins ∧ (s.countRunout).trunk = s.trunk ∧ (s.countRunout).tables = s.tables ∧
    (s.countRunout).odometry = s.odometry ∧ (s.countRunout).generator = s.generator ∧
    (s.countRunout).tilt = s.tilt ∧ (s.countRunout).node = s.node ∧ (s.countRunout).supervision = s.supervision ∧
    (s.countRunout).freeCount = s.freeCount ∧ (s.countRunout).pending = s.pending ∧
    (s.countRunout).params = s.params := by
  unfold State.countRunout
  try dsimp only
  (repeat' split) <;> simp [State.params]

@[simp] theorem State.formDemands_frame (s : State) :
    (s.formDemands).pins = s.pins ∧ (s.formDemands).trunk = s.trunk ∧ (s.formDemands).tables = s.tables ∧
    (s.formDemands).odometry = s.odometry ∧ (s.formDemands).node = s.node ∧
    (s.formDemands).supervision = s.supervision ∧ (s.formDemands).freeCount = s.freeCount ∧
    (s.formDemands).pending = s.pending ∧ (s.formDemands).params = s.params := by
  unfold State.formDemands
  try dsimp only
  (repeat' split) <;> simp [State.params]

@[simp] theorem State.startExchanges_frame (s : State) :
    (s.startExchanges).pins = s.pins ∧ (s.startExchanges).trunk = s.trunk ∧ (s.startExchanges).window = s.window ∧
    (s.startExchanges).tables = s.tables ∧ (s.startExchanges).odometry = s.odometry ∧
    (s.startExchanges).generator = s.generator ∧ (s.startExchanges).node = s.node ∧
    (s.startExchanges).supervision = s.supervision ∧ (s.startExchanges).freeCount = s.freeCount ∧
    (s.startExchanges).pending = s.pending ∧ (s.startExchanges).params = s.params := by
  unfold State.startExchanges
  try dsimp only
  (repeat' split) <;> simp [State.params]

@[simp] theorem State.expirePeriod_frame (s : State) :
    (s.expirePeriod).pins = s.pins ∧ (s.expirePeriod).trunk = s.trunk ∧ (s.expirePeriod).odometry = s.odometry ∧
    (s.expirePeriod).node = s.node ∧ (s.expirePeriod).supervision = s.supervision ∧
    (s.expirePeriod).freeCount = s.freeCount ∧ (s.expirePeriod).pending = s.pending ∧
    (s.expirePeriod).params = s.params := by
  unfold State.expirePeriod
  try dsimp only
  (repeat' split) <;> simp [State.params]

@[simp] theorem State.demandSent_frame (s : State) (f : DemandFrame) :
    (s.demandSent f).pins = s.pins ∧ (s.demandSent f).trunk = s.trunk ∧ (s.demandSent f).window = s.window ∧
    (s.demandSent f).tables = s.tables ∧ (s.demandSent f).odometry = s.odometry ∧
    (s.demandSent f).generator = s.generator ∧ (s.demandSent f).node = s.node ∧
    (s.demandSent f).supervision = s.supervision ∧ (s.demandSent f).freeCount = s.freeCount ∧
    (s.demandSent f).pending = s.pending ∧ (s.demandSent f).params = s.params := by
  unfold State.demandSent
  try dsimp only
  (repeat' split) <;> simp [State.params]

@[simp] theorem State.missExchange_frame (s : State) (c : Channel) (d : ExchangeDefect) :
    (s.missExchange c d).pins = s.pins ∧ (s.missExchange c d).window = s.window ∧
    (s.missExchange c d).tables = s.tables ∧ (s.missExchange c d).odometry = s.odometry ∧
    (s.missExchange c d).freeCount = s.freeCount ∧ (s.missExchange c d).pending = s.pending ∧
    (s.missExchange c d).params = s.params := by
  unfold State.missExchange
  try dsimp only
  (repeat' split) <;> simp

@[simp] theorem State.storeFeedback_frame (s : State) (c : Channel) (a : Int) (l : LockState) (f : Nat) :
    (s.storeFeedback c a l f).pins = s.pins ∧ (s.storeFeedback c a l f).trunk = s.trunk ∧
    (s.storeFeedback c a l f).window = s.window ∧ (s.storeFeedback c a l f).tables = s.tables ∧
    (s.storeFeedback c a l f).odometry = s.odometry ∧ (s.storeFeedback c a l f).generator = s.generator ∧
    (s.storeFeedback c a l f).node = s.node ∧ (s.storeFeedback c a l f).supervision = s.supervision ∧
    (s.storeFeedback c a l f).freeCount = s.freeCount ∧ (s.storeFeedback c a l f).pending = s.pending ∧
    (s.storeFeedback c a l f).params = s.params := by
  unfold State.storeFeedback
  try dsimp only
  (repeat' split) <;> simp [State.params]

@[simp] theorem State.testDriveFault_frame (s : State) (c : Channel) (o n : Nat) :
    (s.testDriveFault c o n).pins = s.pins ∧ (s.testDriveFault c o n).window = s.window ∧
    (s.testDriveFault c o n).tables = s.tables ∧ (s.testDriveFault c o n).odometry = s.odometry ∧
    (s.testDriveFault c o n).freeCount = s.freeCount ∧ (s.testDriveFault c o n).pending = s.pending ∧
    (s.testDriveFault c o n).params = s.params := by
  unfold State.testDriveFault
  try dsimp only
  (repeat' split) <;> simp

@[simp] theorem State.superviseTracking_frame (s : State) (c : Channel) (m : Int) :
    (s.superviseTracking c m).pins = s.pins ∧ (s.superviseTracking c m).window = s.window ∧
    (s.superviseTracking c m).tables = s.tables ∧ (s.superviseTracking c m).odometry = s.odometry ∧
    (s.superviseTracking c m).freeCount = s.freeCount ∧ (s.superviseTracking c m).pending = s.pending ∧
    (s.superviseTracking c m).params = s.params := by
  unfold State.superviseTracking
  try dsimp only
  (repeat' split) <;> simp

@[simp] theorem State.completeUnlock_frame (s : State) :
    (s.completeUnlock).pins = s.pins ∧ (s.completeUnlock).trunk = s.trunk ∧ (s.completeUnlock).window = s.window ∧
    (s.completeUnlock).tables = s.tables ∧ (s.completeUnlock).odometry = s.odometry ∧
    (s.completeUnlock).generator = s.generator ∧ (s.completeUnlock).supervision = s.supervision ∧
    (s.completeUnlock).freeCount = s.freeCount ∧ (s.completeUnlock).pending = s.pending ∧
    (s.completeUnlock).params = s.params := by
  unfold State.completeUnlock
  try dsimp only
  (repeat' split) <;> simp [State.params]

@[simp] theorem State.applyUnlocking_frame (s : State) (c : Channel) (l : LockState) :
    (s.applyUnlocking c l).pins = s.pins ∧ (s.applyUnlocking c l).trunk = s.trunk ∧
    (s.applyUnlocking c l).window = s.window ∧ (s.applyUnlocking c l).tables = s.tables ∧
    (s.applyUnlocking c l).odometry = s.odometry ∧ (s.applyUnlocking c l).generator = s.generator ∧
    (s.applyUnlocking c l).supervision = s.supervision ∧ (s.applyUnlocking c l).freeCount = s.freeCount ∧
    (s.applyUnlocking c l).pending = s.pending ∧ (s.applyUnlocking c l).params = s.params := by
  unfold State.applyUnlocking
  try dsimp only
  (repeat' split) <;> simp

@[simp] theorem State.applyReturning_frame (s : State) (c : Channel) (d m : Int) :
    (s.applyReturning c d m).pins = s.pins ∧ (s.applyReturning c d m).trunk = s.trunk ∧
    (s.applyReturning c d m).window = s.window ∧ (s.applyReturning c d m).tables = s.tables ∧
    (s.applyReturning c d m).odometry = s.odometry ∧ (s.applyReturning c d m).generator = s.generator ∧
    (s.applyReturning c d m).node = s.node ∧ (s.applyReturning c d m).supervision = s.supervision ∧
    (s.applyReturning c d m).freeCount = s.freeCount ∧ (s.applyReturning c d m).pending = s.pending ∧
    (s.applyReturning c d m).params = s.params := by
  unfold State.applyReturning
  try dsimp only
  (repeat' split) <;> simp [State.params]

@[simp] theorem State.tellLocked_frame (s : State) (c : Channel) :
    (s.tellLocked c).pins = s.pins ∧ (s.tellLocked c).trunk = s.trunk ∧ (s.tellLocked c).window = s.window ∧
    (s.tellLocked c).tables = s.tables ∧ (s.tellLocked c).odometry = s.odometry ∧
    (s.tellLocked c).generator = s.generator ∧ (s.tellLocked c).tilt = s.tilt ∧
    (s.tellLocked c).supervision = s.supervision ∧ (s.tellLocked c).freeCount = s.freeCount ∧
    (s.tellLocked c).pending = s.pending ∧ (s.tellLocked c).params = s.params := by
  unfold State.tellLocked
  try dsimp only
  (repeat' split) <;> simp [State.params]

@[simp] theorem State.enterLocked_frame (s : State) (c : Channel) :
    (s.enterLocked c).pins = s.pins ∧ (s.enterLocked c).trunk = s.trunk ∧ (s.enterLocked c).window = s.window ∧
    (s.enterLocked c).tables = s.tables ∧ (s.enterLocked c).odometry = s.odometry ∧
    (s.enterLocked c).generator = s.generator ∧ (s.enterLocked c).supervision = s.supervision ∧
    (s.enterLocked c).freeCount = s.freeCount ∧ (s.enterLocked c).pending = s.pending ∧
    (s.enterLocked c).params = s.params := by
  unfold State.enterLocked
  try dsimp only
  (repeat' split) <;> simp

@[simp] theorem State.applyLocked_frame (s : State) (c : Channel) (l : LockState) :
    (s.applyLocked c l).pins = s.pins ∧ (s.applyLocked c l).window = s.window ∧
    (s.applyLocked c l).tables = s.tables ∧ (s.applyLocked c l).odometry = s.odometry ∧
    (s.applyLocked c l).freeCount = s.freeCount ∧ (s.applyLocked c l).pending = s.pending ∧
    (s.applyLocked c l).params = s.params := by
  unfold State.applyLocked
  try dsimp only
  (repeat' split) <;> simp

@[simp] theorem State.applyLockState_frame (s : State) (c : Channel) (l : LockState) (d m : Int) :
    (s.applyLockState c l d m).pins = s.pins ∧ (s.applyLockState c l d m).window = s.window ∧
    (s.applyLockState c l d m).tables = s.tables ∧ (s.applyLockState c l d m).odometry = s.odometry ∧
    (s.applyLockState c l d m).freeCount = s.freeCount ∧ (s.applyLockState c l d m).pending = s.pending ∧
    (s.applyLockState c l d m).params = s.params := by
  unfold State.applyLockState
  try dsimp only
  (repeat' split) <;> simp

@[simp] theorem State.goodFeedback_frame (s : State) (f : DemandFrame) (a : Int) (l : LockState) (k : Nat) :
    (s.goodFeedback f a l k).pins = s.pins ∧ (s.goodFeedback f a l k).window = s.window ∧
    (s.goodFeedback f a l k).tables = s.tables ∧ (s.goodFeedback f a l k).odometry = s.odometry ∧
    (s.goodFeedback f a l k).freeCount = s.freeCount ∧ (s.goodFeedback f a l k).pending = s.pending ∧
    (s.goodFeedback f a l k).params = s.params := by
  unfold State.goodFeedback
  try dsimp only
  (repeat' split) <;> simp

@[simp] theorem State.lockTimeout_frame (s : State) (c : Channel) :
    (s.lockTimeout c).pins = s.pins ∧ (s.lockTimeout c).window = s.window ∧ (s.lockTimeout c).tables = s.tables ∧
    (s.lockTimeout c).odometry = s.odometry ∧ (s.lockTimeout c).freeCount = s.freeCount ∧
    (s.lockTimeout c).pending = s.pending ∧ (s.lockTimeout c).params = s.params := by
  unfold State.lockTimeout
  try dsimp only
  (repeat' split) <;> simp

@[simp] theorem State.answerTable_frame (s : State) (k : Byte) (tag : Half) (a : TableAnswer) :
    (s.answerTable k tag a).pins = s.pins ∧ (s.answerTable k tag a).window = s.window ∧
    (s.answerTable k tag a).odometry = s.odometry ∧ (s.answerTable k tag a).generator = s.generator ∧
    (s.answerTable k tag a).tilt = s.tilt ∧ (s.answerTable k tag a).node = s.node ∧
    (s.answerTable k tag a).supervision = s.supervision ∧ (s.answerTable k tag a).freeCount = s.freeCount ∧
    (s.answerTable k tag a).pending = s.pending ∧ (s.answerTable k tag a).params = s.params := by
  unfold State.answerTable
  try dsimp only
  (repeat' split) <;> simp [State.params]

@[simp] theorem State.writeParam_frame (s : State) (i : ParamId) (v : Int) :
    (s.writeParam i v).pins = s.pins ∧ (s.writeParam i v).trunk = s.trunk ∧ (s.writeParam i v).window = s.window ∧
    (s.writeParam i v).tables = s.tables ∧ (s.writeParam i v).generator = s.generator ∧
    (s.writeParam i v).tilt = s.tilt ∧ (s.writeParam i v).supervision = s.supervision ∧
    (s.writeParam i v).freeCount = s.freeCount ∧ (s.writeParam i v).pending = s.pending := by
  unfold State.writeParam
  try dsimp only
  (repeat' split) <;> simp

@[simp] theorem State.activate_frame (s : State) :
    (s.activate).pins = s.pins ∧ (s.activate).trunk = s.trunk ∧ (s.activate).window = s.window ∧
    (s.activate).tables = s.tables ∧ (s.activate).odometry = s.odometry ∧ (s.activate).generator = s.generator ∧
    (s.activate).supervision = s.supervision ∧ (s.activate).freeCount = s.freeCount ∧
    (s.activate).pending = s.pending ∧ (s.activate).params = s.params := by
  unfold State.activate
  try dsimp only
  (repeat' split) <;> simp [State.params]

@[simp] theorem State.clearFaults_frame (s : State) :
    (s.clearFaults).pins = s.pins ∧ (s.clearFaults).trunk = s.trunk ∧ (s.clearFaults).window = s.window ∧
    (s.clearFaults).tables = s.tables ∧ (s.clearFaults).odometry = s.odometry ∧
    (s.clearFaults).generator = s.generator ∧ (s.clearFaults).tilt = s.tilt ∧ (s.clearFaults).node = s.node ∧
    (s.clearFaults).freeCount = s.freeCount ∧ (s.clearFaults).pending = s.pending ∧
    (s.clearFaults).params = s.params := by
  unfold State.clearFaults
  try dsimp only
  (repeat' split) <;> simp [State.params]

@[simp] theorem State.commandReset_frame (s : State) :
    (s.commandReset).pins = s.pins ∧ (s.commandReset).trunk = s.trunk ∧ (s.commandReset).freeCount = s.freeCount ∧
    (s.commandReset).pending = s.pending := by
  unfold State.commandReset
  try dsimp only
  (repeat' split) <;> simp

@[simp] theorem State.becomeStale_frame (s : State) :
    (s.becomeStale).pins = s.pins ∧ (s.becomeStale).trunk = s.trunk ∧ (s.becomeStale).window = s.window ∧
    (s.becomeStale).tables = s.tables ∧ (s.becomeStale).odometry = s.odometry ∧
    (s.becomeStale).generator = s.generator ∧ (s.becomeStale).tilt = s.tilt ∧ (s.becomeStale).node = s.node ∧
    (s.becomeStale).freeCount = s.freeCount ∧ (s.becomeStale).pending = s.pending ∧
    (s.becomeStale).params = s.params := by
  unfold State.becomeStale
  try dsimp only
  (repeat' split) <;> simp [State.params]

@[simp] theorem State.becomeLost_frame (s : State) :
    (s.becomeLost).pins = s.pins ∧ (s.becomeLost).window = s.window ∧ (s.becomeLost).tables = s.tables ∧
    (s.becomeLost).odometry = s.odometry ∧ (s.becomeLost).freeCount = s.freeCount ∧
    (s.becomeLost).pending = s.pending ∧ (s.becomeLost).params = s.params := by
  unfold State.becomeLost
  try dsimp only
  (repeat' split) <;> simp

@[simp] theorem State.expireLiveness_frame (s : State) :
    (s.expireLiveness).pins = s.pins ∧ (s.expireLiveness).window = s.window ∧ (s.expireLiveness).tables = s.tables ∧
    (s.expireLiveness).odometry = s.odometry ∧ (s.expireLiveness).freeCount = s.freeCount ∧
    (s.expireLiveness).pending = s.pending ∧ (s.expireLiveness).params = s.params := by
  unfold State.expireLiveness
  try dsimp only
  (repeat' split) <;> simp

@[simp] theorem State.invalidateOffset_frame (s : State) :
    (s.invalidateOffset).pins = s.pins ∧ (s.invalidateOffset).trunk = s.trunk ∧
    (s.invalidateOffset).window = s.window ∧ (s.invalidateOffset).tables = s.tables ∧
    (s.invalidateOffset).generator = s.generator ∧ (s.invalidateOffset).tilt = s.tilt ∧
    (s.invalidateOffset).supervision = s.supervision ∧ (s.invalidateOffset).freeCount = s.freeCount ∧
    (s.invalidateOffset).pending = s.pending := by
  unfold State.invalidateOffset
  try dsimp only
  (repeat' split) <;> simp

@[simp] theorem State.changeHead_frame (s : State) :
    (s.changeHead).pins = s.pins ∧ (s.changeHead).tables = s.tables ∧ (s.changeHead).odometry = s.odometry ∧
    (s.changeHead).generator = s.generator ∧ (s.changeHead).tilt = s.tilt ∧ (s.changeHead).node = s.node ∧
    (s.changeHead).supervision = s.supervision ∧ (s.changeHead).freeCount = s.freeCount ∧
    (s.changeHead).pending = s.pending ∧ (s.changeHead).params = s.params := by
  unfold State.changeHead
  try dsimp only
  (repeat' split) <;> simp [State.params]

@[simp] theorem State.renumber_frame (s : State) (p : Port) (n : Nat) :
    (s.renumber p n).pins = s.pins ∧ (s.renumber p n).tables = s.tables ∧ (s.renumber p n).generator = s.generator ∧
    (s.renumber p n).tilt = s.tilt ∧ (s.renumber p n).supervision = s.supervision ∧
    (s.renumber p n).freeCount = s.freeCount ∧ (s.renumber p n).pending = s.pending := by
  unfold State.renumber
  try dsimp only
  (repeat' split) <;> simp

@[simp] theorem State.unnumber_frame (s : State) :
    (s.unnumber).pins = s.pins ∧ (s.unnumber).window = s.window ∧ (s.unnumber).tables = s.tables ∧
    (s.unnumber).generator = s.generator ∧ (s.unnumber).tilt = s.tilt ∧ (s.unnumber).supervision = s.supervision ∧
    (s.unnumber).freeCount = s.freeCount ∧ (s.unnumber).pending = s.pending := by
  unfold State.unnumber
  try dsimp only
  (repeat' split) <;> simp

@[simp] theorem State.beyondSixteen_frame (s : State) :
    (s.beyondSixteen).pins = s.pins ∧ (s.beyondSixteen).window = s.window ∧ (s.beyondSixteen).tables = s.tables ∧
    (s.beyondSixteen).freeCount = s.freeCount ∧ (s.beyondSixteen).pending = s.pending := by
  unfold State.beyondSixteen
  try dsimp only
  (repeat' split) <;> simp

@[simp] theorem State.rejectReceived_frame (s : State) (p : Port) :
    (s.rejectReceived p).pins = s.pins ∧ (s.rejectReceived p).window = s.window ∧
    (s.rejectReceived p).tables = s.tables ∧ (s.rejectReceived p).odometry = s.odometry ∧
    (s.rejectReceived p).generator = s.generator ∧ (s.rejectReceived p).tilt = s.tilt ∧
    (s.rejectReceived p).node = s.node ∧ (s.rejectReceived p).supervision = s.supervision ∧
    (s.rejectReceived p).freeCount = s.freeCount ∧ (s.rejectReceived p).pending = s.pending ∧
    (s.rejectReceived p).params = s.params := by
  unfold State.rejectReceived
  try dsimp only
  (repeat' split) <;> simp [State.params]

@[simp] theorem State.forwardFrom_frame (s : State) (p : Port) (x : Telegram) :
    (s.forwardFrom p x).pins = s.pins ∧ (s.forwardFrom p x).window = s.window ∧
    (s.forwardFrom p x).tables = s.tables ∧ (s.forwardFrom p x).odometry = s.odometry ∧
    (s.forwardFrom p x).generator = s.generator ∧ (s.forwardFrom p x).tilt = s.tilt ∧
    (s.forwardFrom p x).node = s.node ∧ (s.forwardFrom p x).supervision = s.supervision ∧
    (s.forwardFrom p x).freeCount = s.freeCount ∧ (s.forwardFrom p x).pending = s.pending ∧
    (s.forwardFrom p x).params = s.params := by
  unfold State.forwardFrom
  try dsimp only
  (repeat' split) <;> simp [State.params]

@[simp] theorem State.takePosition_frame (s : State) (b : PositionBody) :
    (s.takePosition b).pins = s.pins ∧ (s.takePosition b).window = s.window ∧ (s.takePosition b).tables = s.tables ∧
    (s.takePosition b).freeCount = s.freeCount ∧ (s.takePosition b).pending = s.pending := by
  unfold State.takePosition
  try dsimp only
  (repeat' split) <;> simp

@[simp] theorem State.takeSegment_frame (s : State) (b : SegmentBody) :
    (s.takeSegment b).pins = s.pins ∧ (s.takeSegment b).tables = s.tables ∧
    (s.takeSegment b).odometry = s.odometry ∧ (s.takeSegment b).freeCount = s.freeCount ∧
    (s.takeSegment b).pending = s.pending ∧ (s.takeSegment b).params = s.params := by
  unfold State.takeSegment
  try dsimp only
  (repeat' split) <;> simp

@[simp] theorem State.takeWithdraw_frame (s : State) (g : Byte) (id : Half) :
    (s.takeWithdraw g id).pins = s.pins ∧ (s.takeWithdraw g id).trunk = s.trunk ∧
    (s.takeWithdraw g id).tables = s.tables ∧ (s.takeWithdraw g id).odometry = s.odometry ∧
    (s.takeWithdraw g id).generator = s.generator ∧ (s.takeWithdraw g id).tilt = s.tilt ∧
    (s.takeWithdraw g id).node = s.node ∧ (s.takeWithdraw g id).supervision = s.supervision ∧
    (s.takeWithdraw g id).freeCount = s.freeCount ∧ (s.takeWithdraw g id).pending = s.pending ∧
    (s.takeWithdraw g id).params = s.params := by
  unfold State.takeWithdraw
  try dsimp only
  (repeat' split) <;> simp [State.params]

@[simp] theorem State.takeSnapshot_frame (s : State) (tag : Half) :
    (s.takeSnapshot tag).pins = s.pins ∧ (s.takeSnapshot tag).trunk = s.trunk ∧
    (s.takeSnapshot tag).window = s.window ∧ (s.takeSnapshot tag).tables = s.tables ∧
    (s.takeSnapshot tag).odometry = s.odometry ∧ (s.takeSnapshot tag).generator = s.generator ∧
    (s.takeSnapshot tag).tilt = s.tilt ∧ (s.takeSnapshot tag).node = s.node ∧
    (s.takeSnapshot tag).freeCount = s.freeCount ∧ (s.takeSnapshot tag).pending = s.pending ∧
    (s.takeSnapshot tag).params = s.params := by
  unfold State.takeSnapshot
  try dsimp only
  (repeat' split) <;> simp [State.params]

@[simp] theorem State.takeEnumerate_frame (s : State) (p : Port) (n : Byte) :
    (s.takeEnumerate p n).pins = s.pins ∧ (s.takeEnumerate p n).tables = s.tables ∧
    (s.takeEnumerate p n).freeCount = s.freeCount ∧ (s.takeEnumerate p n).pending = s.pending := by
  unfold State.takeEnumerate
  try dsimp only
  (repeat' split) <;> simp

@[simp] theorem State.takeParam_frame (s : State) (tag : Half) (i : Byte) (v : Word) :
    (s.takeParam tag i v).pins = s.pins ∧ (s.takeParam tag i v).window = s.window ∧
    (s.takeParam tag i v).tables = s.tables ∧ (s.takeParam tag i v).generator = s.generator ∧
    (s.takeParam tag i v).tilt = s.tilt ∧ (s.takeParam tag i v).supervision = s.supervision ∧
    (s.takeParam tag i v).freeCount = s.freeCount ∧ (s.takeParam tag i v).pending = s.pending := by
  unfold State.takeParam
  try dsimp only
  (repeat' split) <;> simp

@[simp] theorem State.takeTableWrite_frame (s : State) (tag : Half) (b : Byte) (ts : List Triplet) :
    (s.takeTableWrite tag b ts).pins = s.pins ∧ (s.takeTableWrite tag b ts).window = s.window ∧
    (s.takeTableWrite tag b ts).odometry = s.odometry ∧ (s.takeTableWrite tag b ts).generator = s.generator ∧
    (s.takeTableWrite tag b ts).tilt = s.tilt ∧ (s.takeTableWrite tag b ts).node = s.node ∧
    (s.takeTableWrite tag b ts).supervision = s.supervision ∧ (s.takeTableWrite tag b ts).freeCount = s.freeCount ∧
    (s.takeTableWrite tag b ts).pending = s.pending ∧ (s.takeTableWrite tag b ts).params = s.params := by
  unfold State.takeTableWrite
  try dsimp only
  (repeat' split) <;> simp [State.params]

@[simp] theorem State.takeTableThresholds_frame (s : State) (tag : Half) (b f : Byte) (vs : List Half) :
    (s.takeTableThresholds tag b f vs).pins = s.pins ∧ (s.takeTableThresholds tag b f vs).window = s.window ∧
    (s.takeTableThresholds tag b f vs).odometry = s.odometry ∧
    (s.takeTableThresholds tag b f vs).generator = s.generator ∧ (s.takeTableThresholds tag b f vs).tilt = s.tilt ∧
    (s.takeTableThresholds tag b f vs).node = s.node ∧
    (s.takeTableThresholds tag b f vs).supervision = s.supervision ∧
    (s.takeTableThresholds tag b f vs).freeCount = s.freeCount ∧
    (s.takeTableThresholds tag b f vs).pending = s.pending ∧
    (s.takeTableThresholds tag b f vs).params = s.params := by
  unfold State.takeTableThresholds
  try dsimp only
  (repeat' split) <;> simp [State.params]

@[simp] theorem State.takeTableTrim_frame (s : State) (tag : Half) (b c d : Byte) :
    (s.takeTableTrim tag b c d).pins = s.pins ∧ (s.takeTableTrim tag b c d).window = s.window ∧
    (s.takeTableTrim tag b c d).odometry = s.odometry ∧ (s.takeTableTrim tag b c d).generator = s.generator ∧
    (s.takeTableTrim tag b c d).tilt = s.tilt ∧ (s.takeTableTrim tag b c d).node = s.node ∧
    (s.takeTableTrim tag b c d).supervision = s.supervision ∧ (s.takeTableTrim tag b c d).freeCount = s.freeCount ∧
    (s.takeTableTrim tag b c d).pending = s.pending ∧ (s.takeTableTrim tag b c d).params = s.params := by
  unfold State.takeTableTrim
  try dsimp only
  (repeat' split) <;> simp [State.params]

@[simp] theorem State.takeBankVerify_frame (s : State) (tag : Half) (b : Byte) :
    (s.takeBankVerify tag b).pins = s.pins ∧ (s.takeBankVerify tag b).window = s.window ∧
    (s.takeBankVerify tag b).odometry = s.odometry ∧ (s.takeBankVerify tag b).generator = s.generator ∧
    (s.takeBankVerify tag b).tilt = s.tilt ∧ (s.takeBankVerify tag b).node = s.node ∧
    (s.takeBankVerify tag b).supervision = s.supervision ∧ (s.takeBankVerify tag b).freeCount = s.freeCount ∧
    (s.takeBankVerify tag b).pending = s.pending ∧ (s.takeBankVerify tag b).params = s.params := by
  unfold State.takeBankVerify
  try dsimp only
  (repeat' split) <;> simp [State.params]

@[simp] theorem State.takeBankSwap_frame (s : State) (tag : Half) :
    (s.takeBankSwap tag).pins = s.pins ∧ (s.takeBankSwap tag).window = s.window ∧
    (s.takeBankSwap tag).odometry = s.odometry ∧ (s.takeBankSwap tag).generator = s.generator ∧
    (s.takeBankSwap tag).tilt = s.tilt ∧ (s.takeBankSwap tag).node = s.node ∧
    (s.takeBankSwap tag).supervision = s.supervision ∧ (s.takeBankSwap tag).freeCount = s.freeCount ∧
    (s.takeBankSwap tag).pending = s.pending ∧ (s.takeBankSwap tag).params = s.params := by
  unfold State.takeBankSwap
  try dsimp only
  (repeat' split) <;> simp [State.params]

@[simp] theorem State.takeEnable_frame (s : State) (tag : Half) :
    (s.takeEnable tag).pins = s.pins ∧ (s.takeEnable tag).window = s.window ∧ (s.takeEnable tag).tables = s.tables ∧
    (s.takeEnable tag).odometry = s.odometry ∧ (s.takeEnable tag).generator = s.generator ∧
    (s.takeEnable tag).supervision = s.supervision ∧ (s.takeEnable tag).freeCount = s.freeCount ∧
    (s.takeEnable tag).pending = s.pending ∧ (s.takeEnable tag).params = s.params := by
  unfold State.takeEnable
  try dsimp only
  (repeat' split) <;> simp

@[simp] theorem State.takeDisable_frame (s : State) (tag : Half) :
    (s.takeDisable tag).pins = s.pins ∧ (s.takeDisable tag).window = s.window ∧
    (s.takeDisable tag).tables = s.tables ∧ (s.takeDisable tag).odometry = s.odometry ∧
    (s.takeDisable tag).supervision = s.supervision ∧ (s.takeDisable tag).freeCount = s.freeCount ∧
    (s.takeDisable tag).pending = s.pending ∧ (s.takeDisable tag).params = s.params := by
  unfold State.takeDisable
  try dsimp only
  (repeat' split) <;> simp

@[simp] theorem State.takeRelease_frame (s : State) (tag : Half) :
    (s.takeRelease tag).pins = s.pins ∧ (s.takeRelease tag).window = s.window ∧
    (s.takeRelease tag).tables = s.tables ∧ (s.takeRelease tag).odometry = s.odometry ∧
    (s.takeRelease tag).generator = s.generator ∧ (s.takeRelease tag).tilt = s.tilt ∧
    (s.takeRelease tag).supervision = s.supervision ∧ (s.takeRelease tag).freeCount = s.freeCount ∧
    (s.takeRelease tag).pending = s.pending ∧ (s.takeRelease tag).params = s.params := by
  unfold State.takeRelease
  try dsimp only
  (repeat' split) <;> simp [State.params]

@[simp] theorem State.takeClearFaults_frame (s : State) (tag : Half) :
    (s.takeClearFaults tag).pins = s.pins ∧ (s.takeClearFaults tag).window = s.window ∧
    (s.takeClearFaults tag).tables = s.tables ∧ (s.takeClearFaults tag).odometry = s.odometry ∧
    (s.takeClearFaults tag).generator = s.generator ∧ (s.takeClearFaults tag).tilt = s.tilt ∧
    (s.takeClearFaults tag).node = s.node ∧ (s.takeClearFaults tag).freeCount = s.freeCount ∧
    (s.takeClearFaults tag).pending = s.pending ∧ (s.takeClearFaults tag).params = s.params := by
  unfold State.takeClearFaults
  try dsimp only
  (repeat' split) <;> simp [State.params]

@[simp] theorem State.takeReset_frame (s : State) (tag : Half) :
    (s.takeReset tag).pins = s.pins ∧ (s.takeReset tag).freeCount = s.freeCount ∧
    (s.takeReset tag).pending = s.pending := by
  unfold State.takeReset
  try dsimp only
  (repeat' split) <;> simp

@[simp] theorem State.takeCommand_frame (s : State) (tag : Half) (code : Byte) :
    (s.takeCommand tag code).pins = s.pins ∧ (s.takeCommand tag code).freeCount = s.freeCount ∧
    (s.takeCommand tag code).pending = s.pending := by
  unfold State.takeCommand
  try dsimp only
  (repeat' split) <;> simp

@[simp] theorem State.answerStatus_frame (s : State) (tag : Half) :
    (s.answerStatus tag).pins = s.pins ∧ (s.answerStatus tag).window = s.window ∧
    (s.answerStatus tag).tables = s.tables ∧ (s.answerStatus tag).odometry = s.odometry ∧
    (s.answerStatus tag).generator = s.generator ∧ (s.answerStatus tag).tilt = s.tilt ∧
    (s.answerStatus tag).node = s.node ∧ (s.answerStatus tag).supervision = s.supervision ∧
    (s.answerStatus tag).freeCount = s.freeCount ∧ (s.answerStatus tag).pending = s.pending ∧
    (s.answerStatus tag).params = s.params := by
  unfold State.answerStatus
  try dsimp only
  (repeat' split) <;> simp [State.params]

@[simp] theorem State.answerWindow_frame (s : State) (tag : Half) :
    (s.answerWindow tag).pins = s.pins ∧ (s.answerWindow tag).window = s.window ∧
    (s.answerWindow tag).tables = s.tables ∧ (s.answerWindow tag).odometry = s.odometry ∧
    (s.answerWindow tag).generator = s.generator ∧ (s.answerWindow tag).tilt = s.tilt ∧
    (s.answerWindow tag).node = s.node ∧ (s.answerWindow tag).supervision = s.supervision ∧
    (s.answerWindow tag).freeCount = s.freeCount ∧ (s.answerWindow tag).pending = s.pending ∧
    (s.answerWindow tag).params = s.params := by
  unfold State.answerWindow
  try dsimp only
  (repeat' split) <;> simp [State.params]

@[simp] theorem State.answerSegment_frame (s : State) (tag : Half) (a : Byte) :
    (s.answerSegment tag a).pins = s.pins ∧ (s.answerSegment tag a).window = s.window ∧
    (s.answerSegment tag a).tables = s.tables ∧ (s.answerSegment tag a).odometry = s.odometry ∧
    (s.answerSegment tag a).generator = s.generator ∧ (s.answerSegment tag a).tilt = s.tilt ∧
    (s.answerSegment tag a).node = s.node ∧ (s.answerSegment tag a).supervision = s.supervision ∧
    (s.answerSegment tag a).freeCount = s.freeCount ∧ (s.answerSegment tag a).pending = s.pending ∧
    (s.answerSegment tag a).params = s.params := by
  unfold State.answerSegment
  try dsimp only
  (repeat' split) <;> simp [State.params]

@[simp] theorem State.answerTableRow_frame (s : State) (tag : Half) (a b : Byte) :
    (s.answerTableRow tag a b).pins = s.pins ∧ (s.answerTableRow tag a b).window = s.window ∧
    (s.answerTableRow tag a b).tables = s.tables ∧ (s.answerTableRow tag a b).odometry = s.odometry ∧
    (s.answerTableRow tag a b).generator = s.generator ∧ (s.answerTableRow tag a b).tilt = s.tilt ∧
    (s.answerTableRow tag a b).node = s.node ∧ (s.answerTableRow tag a b).supervision = s.supervision ∧
    (s.answerTableRow tag a b).freeCount = s.freeCount ∧ (s.answerTableRow tag a b).pending = s.pending ∧
    (s.answerTableRow tag a b).params = s.params := by
  unfold State.answerTableRow
  try dsimp only
  (repeat' split) <;> simp [State.params]

@[simp] theorem State.answerThresholds_frame (s : State) (tag : Half) (a : Byte) :
    (s.answerThresholds tag a).pins = s.pins ∧ (s.answerThresholds tag a).window = s.window ∧
    (s.answerThresholds tag a).tables = s.tables ∧ (s.answerThresholds tag a).odometry = s.odometry ∧
    (s.answerThresholds tag a).generator = s.generator ∧ (s.answerThresholds tag a).tilt = s.tilt ∧
    (s.answerThresholds tag a).node = s.node ∧ (s.answerThresholds tag a).supervision = s.supervision ∧
    (s.answerThresholds tag a).freeCount = s.freeCount ∧ (s.answerThresholds tag a).pending = s.pending ∧
    (s.answerThresholds tag a).params = s.params := by
  unfold State.answerThresholds
  try dsimp only
  (repeat' split) <;> simp [State.params]

@[simp] theorem State.answerFaults_frame (s : State) (tag : Half) (a : Byte) :
    (s.answerFaults tag a).pins = s.pins ∧ (s.answerFaults tag a).window = s.window ∧
    (s.answerFaults tag a).tables = s.tables ∧ (s.answerFaults tag a).odometry = s.odometry ∧
    (s.answerFaults tag a).generator = s.generator ∧ (s.answerFaults tag a).tilt = s.tilt ∧
    (s.answerFaults tag a).node = s.node ∧ (s.answerFaults tag a).supervision = s.supervision ∧
    (s.answerFaults tag a).freeCount = s.freeCount ∧ (s.answerFaults tag a).pending = s.pending ∧
    (s.answerFaults tag a).params = s.params := by
  unfold State.answerFaults
  try dsimp only
  (repeat' split) <;> simp [State.params]

@[simp] theorem State.answerSnapshot_frame (s : State) (tag : Half) :
    (s.answerSnapshot tag).pins = s.pins ∧ (s.answerSnapshot tag).window = s.window ∧
    (s.answerSnapshot tag).tables = s.tables ∧ (s.answerSnapshot tag).odometry = s.odometry ∧
    (s.answerSnapshot tag).generator = s.generator ∧ (s.answerSnapshot tag).tilt = s.tilt ∧
    (s.answerSnapshot tag).node = s.node ∧ (s.answerSnapshot tag).freeCount = s.freeCount ∧
    (s.answerSnapshot tag).pending = s.pending ∧ (s.answerSnapshot tag).params = s.params := by
  unfold State.answerSnapshot
  try dsimp only
  (repeat' split) <;> simp [State.params]

@[simp] theorem State.answerSnapshotPeek_frame (s : State) (tag : Half) :
    (s.answerSnapshotPeek tag).pins = s.pins ∧ (s.answerSnapshotPeek tag).window = s.window ∧
    (s.answerSnapshotPeek tag).tables = s.tables ∧ (s.answerSnapshotPeek tag).odometry = s.odometry ∧
    (s.answerSnapshotPeek tag).generator = s.generator ∧ (s.answerSnapshotPeek tag).tilt = s.tilt ∧
    (s.answerSnapshotPeek tag).node = s.node ∧ (s.answerSnapshotPeek tag).supervision = s.supervision ∧
    (s.answerSnapshotPeek tag).freeCount = s.freeCount ∧ (s.answerSnapshotPeek tag).pending = s.pending ∧
    (s.answerSnapshotPeek tag).params = s.params := by
  unfold State.answerSnapshotPeek
  try dsimp only
  (repeat' split) <;> simp [State.params]

@[simp] theorem State.answerParam_frame (s : State) (tag : Half) (a : Byte) :
    (s.answerParam tag a).pins = s.pins ∧ (s.answerParam tag a).window = s.window ∧
    (s.answerParam tag a).tables = s.tables ∧ (s.answerParam tag a).odometry = s.odometry ∧
    (s.answerParam tag a).generator = s.generator ∧ (s.answerParam tag a).tilt = s.tilt ∧
    (s.answerParam tag a).node = s.node ∧ (s.answerParam tag a).supervision = s.supervision ∧
    (s.answerParam tag a).freeCount = s.freeCount ∧ (s.answerParam tag a).pending = s.pending ∧
    (s.answerParam tag a).params = s.params := by
  unfold State.answerParam
  try dsimp only
  (repeat' split) <;> simp [State.params]

@[simp] theorem State.answerCounters_frame (s : State) (tag : Half) :
    (s.answerCounters tag).pins = s.pins ∧ (s.answerCounters tag).window = s.window ∧
    (s.answerCounters tag).tables = s.tables ∧ (s.answerCounters tag).odometry = s.odometry ∧
    (s.answerCounters tag).generator = s.generator ∧ (s.answerCounters tag).tilt = s.tilt ∧
    (s.answerCounters tag).node = s.node ∧ (s.answerCounters tag).supervision = s.supervision ∧
    (s.answerCounters tag).freeCount = s.freeCount ∧ (s.answerCounters tag).pending = s.pending ∧
    (s.answerCounters tag).params = s.params := by
  unfold State.answerCounters
  try dsimp only
  (repeat' split) <;> simp [State.params]

@[simp] theorem State.takeQuery_frame (s : State) (tag : Half) (i a b : Byte) :
    (s.takeQuery tag i a b).pins = s.pins ∧ (s.takeQuery tag i a b).window = s.window ∧
    (s.takeQuery tag i a b).tables = s.tables ∧ (s.takeQuery tag i a b).odometry = s.odometry ∧
    (s.takeQuery tag i a b).generator = s.generator ∧ (s.takeQuery tag i a b).tilt = s.tilt ∧
    (s.takeQuery tag i a b).node = s.node ∧ (s.takeQuery tag i a b).freeCount = s.freeCount ∧
    (s.takeQuery tag i a b).pending = s.pending ∧ (s.takeQuery tag i a b).params = s.params := by
  unfold State.takeQuery
  try dsimp only
  (repeat' split) <;> simp [State.params]


end Sys2Proof.Machine
end

