-- ==== Sys2Proof/Laws/Layout.lean ====
section
/-! SUPPORT. What the layouts come to: a field of one, two or four bytes as the bytes that the REPORT contents hold, and a
character of the drive link read back from its ten bits. -/

namespace Sys2Proof.Machine

/-! ## Report fields (R168) -/

theorem ofInt_extract (k : Nat) (x : Int) (h : k = 0 ∨ k = 8 ∨ k = 16 ∨ k = 24) :
    (BitVec.ofInt 32 x).extractLsb' k 8 = BitVec.ofInt 8 (x / 2 ^ k) := by
  apply BitVec.eq_of_toNat_eq
  simp only [BitVec.extractLsb'_toNat, BitVec.toNat_ofInt, Nat.shiftRight_eq_div_pow]
  rcases h with rfl | rfl | rfl | rfl <;> simp only [Nat.reducePow, Int.reducePow] <;> omega
theorem ofInt_extract16 (k : Nat) (x : Int) (h : k = 0 ∨ k = 8) :
    (BitVec.ofInt 16 x).extractLsb' k 8 = BitVec.ofInt 8 (x / 2 ^ k) := by
  apply BitVec.eq_of_toNat_eq
  simp only [BitVec.extractLsb'_toNat, BitVec.toNat_ofInt, Nat.shiftRight_eq_div_pow]
  rcases h with rfl | rfl <;> simp only [Nat.reducePow, Int.reducePow] <;> omega
theorem ofInt_natCast (w n : Nat) : BitVec.ofInt w (n : Int) = BitVec.ofNat w n := BitVec.ofInt_natCast w n

theorem packed_nil : packed [] = [] := rfl
theorem packed_append (xs ys : List (Nat × Int)) : packed (xs ++ ys) = packed xs ++ packed ys := by
  induction xs with
  | nil => rfl
  | cons x xs ih => simp [packed, ih]
/-- A field of one byte. -/
theorem packed_field1 (x : Int) (r : List (Nat × Int)) : packed (field 1 x :: r) = BitVec.ofInt 8 x :: packed r := by
  simp [packed, field]
/-- A field of two bytes. -/
theorem packed_field2 (x : Int) (r : List (Nat × Int)) : packed (field 2 x :: r) = int16 x ++ packed r := by
  simp [packed, field, int16, halfBytes, ofInt_extract16, List.range, List.range.loop]
/-- A field of four bytes. -/
theorem packed_field4 (x : Int) (r : List (Nat × Int)) : packed (field 4 x :: r) = int32 x ++ packed r := by
  simp [packed, field, int32, wordBytes, ofInt_extract, List.range, List.range.loop]
theorem packed_flagField (b : Bool) (r : List (Nat × Int)) : packed (flagField b :: r) = flagByte b :: packed r := by
  cases b <;> simp [packed, flagField, flagByte]
theorem packed_codeField {α : Type} [DecidableEq α] (codes : List α) (x : α) (r : List (Nat × Int)) :
    packed (codeField codes x :: r) = byteOf (codes.findIdx (fun y => decide (y = x))) :: packed r := by
  simp [packed, codeField, byteOf]

/-- Optional fields are an optional field of the contents. -/
theorem packed_optionalFields (sizes : List Nat) (o : Option (List (Nat × Int))) :
    packed (optionalFields sizes o) = optionalField sizes.sum (o.map packed) := by
  cases o with
  | some fields => simp [optionalFields, optionalField, packed]
  | none =>
    have h : ∀ ns : List Nat, packed (ns.map (fun n => (n, 0))) = List.replicate ns.sum 0 := by
      intro ns
      induction ns with
      | nil => rfl
      | cons n ns ih =>
        simp [packed, ih, List.map_const', ← List.replicate_append_replicate]
    simp [optionalFields, optionalField, packed, h]

/-! ## Characters of the drive link (R169) -/

/-- The bits of a character that carries a byte: the byte, least significant bit first, and the stop bit. -/
theorem LineChar.ofByte_bit (b : Byte) (i : Nat) :
    (LineChar.ofByte b).bits.getLsbD i = if i < 8 then b.getLsbD i else (1#1).getLsbD (i - 8) := by
  show (1#1 ++ b : BitVec (1 + 8)).getLsbD i = _
  rw [BitVec.getLsbD_append]
theorem LineChar.ofByte_data (b : Byte) : (LineChar.ofByte b).data = b := by
  apply BitVec.eq_of_getLsbD_eq
  intro i hi
  simp only [LineChar.data, BitVec.getLsbD_extractLsb', LineChar.ofByte_bit, Nat.zero_add, hi, decide_true, if_true,
    Bool.true_and]
theorem LineChar.ofByte_framingError (b : Byte) : (LineChar.ofByte b).framingError = false := by
  simp only [LineChar.framingError, LineChar.ofByte_bit]; rfl
/-- A character that carries a byte, bit by bit. -/
theorem LineChar.ofByte_line (b : Byte) :
    (LineChar.ofByte b).line =
      [false, b.getLsbD 0, b.getLsbD 1, b.getLsbD 2, b.getLsbD 3, b.getLsbD 4, b.getLsbD 5, b.getLsbD 6, b.getLsbD 7,
        true] := by
  simp only [LineChar.line, LineChar.ofByte_bit]; rfl
/-- A DEMAND frame is 50 bits on the line. -/
theorem DemandFrame.line_length (f : DemandFrame) : f.line.length = 50 := rfl

end Sys2Proof.Machine
end

