-- ==== Sys2Proof/Laws/Steps.lean ====
section
/-! SUPPORT. What a step can do, said once: the fields of a telegram read back, every operation of the Trunk Unit keeps the
head port and the address, and a property that each block's operations keep is kept by every command (`exec_keeps`). -/

namespace Sys2Proof.Machine

/-! ## Fields read back -/

theorem half_bytes (h : Half) : half (h.extractLsb' 8 8) (h.extractLsb' 0 8) = h := by
  apply BitVec.eq_of_getLsbD_eq
  intro i hi
  simp only [half, BitVec.getLsbD_append, BitVec.getLsbD_extractLsb']
  by_cases h8 : i < 8
  · simp [h8]
  · have : i - 8 < 8 := by omega
    simp [h8, this, show 8 + (i - 8) = i by omega]
theorem word_bytes (w : Word) :
    word (w.extractLsb' 24 8) (w.extractLsb' 16 8) (w.extractLsb' 8 8) (w.extractLsb' 0 8) = w := by
  apply BitVec.eq_of_getLsbD_eq
  intro i hi
  simp only [word, BitVec.getLsbD_append, BitVec.getLsbD_extractLsb']
  by_cases h8 : i < 8
  · simp [h8]
  · by_cases h16 : i < 16
    · simp [h8, show i - 8 < 8 by omega, show 8 + (i - 8) = i by omega]
    · by_cases h24 : i < 24
      · simp [h8, show ¬ i - 8 < 8 by omega, show i - 8 - 8 < 8 by omega, show 16 + (i - 8 - 8) = i by omega]
      · simp [h8, show ¬i - 8 < 8 by omega, show ¬i - 8 - 8 < 8 by omega, show i - 8 - 8 - 8 < 8 by omega,
          show 24 + (i - 8 - 8 - 8) = i by omega]

theorem readTriplets_bytes (ts : List Triplet) : readTriplets (tripletBytes ts) = some ts := by
  induction ts with
  | nil => rfl
  | cons t ts ih => simp [tripletBytes, readTriplets, ih]
theorem readValues_bytes (vs : List Half) : readValues (valueBytes vs) = some vs := by
  induction vs with
  | nil => rfl
  | cons v vs ih => simp [valueBytes, halfBytes, readValues, ih, half_bytes]

/-- The telegram of a body says that body. -/
theorem body_of_telegram (b : Body) (a : Arrival) : (b.telegram a).body = some b := by
  cases b with
  | tableWrite bank ts =>
    simp [Body.telegram, Arrival.telegram, Telegram.body, Body.kind, kindTableWrite, Body.payload, readTableWrite,
      readTriplets_bytes]
  | tableThresholds bank f vs =>
    simp [Body.telegram, Arrival.telegram, Telegram.body, Body.kind, kindTableThresholds, Body.payload,
      readTableThresholds, readValues_bytes]
  | position b =>
    simp [Body.telegram, Arrival.telegram, Telegram.body, Body.kind, kindPosition, Body.payload, PositionBody.payload,
      halfBytes, wordBytes, readPosition, half_bytes, word_bytes]
  | segment b =>
    simp [Body.telegram, Arrival.telegram, Telegram.body, Body.kind, kindSegment, Body.payload, SegmentBody.payload,
      halfBytes, wordBytes, readSegment, half_bytes, word_bytes]
  | withdraw g i =>
    simp [Body.telegram, Arrival.telegram, Telegram.body, Body.kind, kindWithdraw, Body.payload, halfBytes,
      readWithdraw, half_bytes]
  | param g i =>
    simp [Body.telegram, Arrival.telegram, Telegram.body, Body.kind, kindParam, Body.payload, wordBytes, readParam,
      word_bytes]
  | _ => rfl

/-! ## The head port and the address -/

/-- Two Trunk Units hold the same head port and address. -/
def SameHead (t u : Trunk) : Prop := u.headPort = t.headPort ∧ u.address = t.address
/-- A telegram that the Trunk Unit delivers to a block: its port is UP and TABLE 8-IV has it acted on. -/
def Acts (t : Trunk) (p : Port) (x : Telegram) : Prop := t.isUp p = true ∧ (t.route p x = .act ∨ t.route p x = .deliver)

theorem sameHead_setPort (t : Trunk) (p y) : SameHead t (t.setPort p y) := by cases p <;> exact ⟨rfl, rfl⟩
theorem sameHead_offer (t : Trunk) (p y) : SameHead t (t.offer p y) := by
  unfold Trunk.offer; split <;> cases p <;> exact ⟨rfl, rfl⟩
theorem sameHead_placeOwn (t : Trunk) (y) : SameHead t (t.placeOwn y) := by
  unfold Trunk.placeOwn; split <;> exact ⟨rfl, rfl⟩
theorem sameHead_countWrongSide (t : Trunk) (p) : SameHead t (t.countWrongSide p) := by cases p <;> exact ⟨rfl, rfl⟩
theorem sameHead_countRxError (t : Trunk) (p) : SameHead t (t.countRxError p) := by cases p <;> exact ⟨rfl, rfl⟩
theorem SameHead.trans {t u v : Trunk} (a : SameHead t u) (b : SameHead u v) : SameHead t v := ⟨b.1.trans a.1, b.2.trans a.2⟩
theorem sameHead_countDrops (t : Trunk) (p k) : SameHead t (t.countDrops k p) := by cases p <;> exact ⟨rfl, rfl⟩
theorem sameHead_setQueue (t : Trunk) (p k) : SameHead t (t.setQueue p k) := by cases p <;> exact ⟨rfl, rfl⟩
theorem sameHead_discardOwn (t : Trunk) : SameHead t (t.discardOwn) := ⟨rfl, rfl⟩
theorem sameHead_leaveUp (t : Trunk) (p) : SameHead t (t.leaveUp p) := by
  unfold Trunk.leaveUp
  have a : SameHead t (t.dropArriving p) := by unfold Trunk.dropArriving; split; exact sameHead_countRxError _ _; exact ⟨rfl,rfl⟩
  have b : ∀ t : Trunk, SameHead t (t.dropTransmitted p) := by intro t; unfold Trunk.dropTransmitted; split; exact sameHead_countDrops _ _ _; exact ⟨rfl,rfl⟩; exact ⟨rfl,rfl⟩
  have c : ∀ t : Trunk, SameHead t (t.dropTransit p) := by intro t; unfold Trunk.dropTransit; exact SameHead.trans (sameHead_countDrops _ _ _) (sameHead_setQueue _ _ _)
  have d : ∀ t : Trunk, SameHead t (t.dropOwn p) := by intro t; unfold Trunk.dropOwn; split; exact sameHead_discardOwn _; exact ⟨rfl,rfl⟩
  have := SameHead.trans (SameHead.trans (SameHead.trans a (b _)) (c _)) (d _)
  exact ⟨this.1, this.2⟩
theorem sameHead_goDown (t : Trunk) (p) : SameHead t (t.goDown p) := by
  unfold Trunk.goDown; split
  · exact SameHead.trans (sameHead_leaveUp _ _) (sameHead_setPort _ _ _)
  · exact sameHead_setPort _ _ _
  · exact ⟨rfl, rfl⟩
theorem sameHead_sendTransit (t : Trunk) (p) : SameHead t (t.sendTransit p) := by
  unfold Trunk.sendTransit; split
  · exact ⟨rfl, rfl⟩
  · exact SameHead.trans (sameHead_setQueue _ _ _) (sameHead_setPort _ _ _)
theorem sameHead_sendOwn (t : Trunk) (p) : SameHead t (t.sendOwn p) := by
  unfold Trunk.sendOwn; split
  · exact ⟨rfl, rfl⟩
  · exact sameHead_setPort { t with own := _ } _ _
theorem sameHead_arbiterChoice (t : Trunk) : SameHead t (t.arbiterChoice) := by
  unfold Trunk.arbiterChoice; split
  · exact ⟨rfl, rfl⟩
  · split
    · unfold Trunk.arbitrate
      (repeat' split) <;> first | exact ⟨(sameHead_sendTransit _ _).1, (sameHead_sendTransit _ _).2⟩ | exact ⟨(sameHead_sendOwn _ _).1, (sameHead_sendOwn _ _).2⟩
    · exact ⟨rfl, rfl⟩

/-! ## What a command can do -/

section
variable {P : State → Prop} (ht : ∀ s u, SameHead s.trunk u → P s → P (s.setTrunk u))
include ht

/-- A property that the acting block keeps and that does not see the queues is kept by an arrival. -/
theorem arrive_keeps (p x act) (hact : ∀ s, s.pins.rstN = true → Acts s.trunk p x → P s → P (act s)) (s : State) (hr : s.pins.rstN = true) (h : P s) : P (s.arrive p x act) := by
  unfold State.arrive
  split
  · rename_i hup
    split
    · have h1 : P (s.setTrunk (s.trunk.endReceiving p)) := ht _ _ (sameHead_setPort _ _ _) h
      have hup' : (s.setTrunk (s.trunk.endReceiving p)).trunk.isUp p = true := by
        simpa [Trunk.isUp, Trunk.endReceiving] using hup
      have hr' : (s.setTrunk (s.trunk.endReceiving p)).pins.rstN = true := hr
      generalize s.setTrunk (s.trunk.endReceiving p) = s' at h1 hup' hr'
      unfold State.routeGood
      split
      · rename_i e; exact ht _ _ (sameHead_offer _ _ _) (hact _ hr' ⟨hup', .inl e⟩ h1)
      · rename_i e; exact hact _ hr' ⟨hup', .inr e⟩ h1
      · exact ht _ _ (sameHead_offer _ _ _) h1
      · exact ht _ _ (sameHead_placeOwn _ _) h1
      · exact ht _ _ (sameHead_countWrongSide _ _) h1
    · exact ht _ _ (SameHead.trans (sameHead_setPort _ _ _) (sameHead_countRxError _ _)) h
  · exact h

/-- A property that depends on the Trunk Unit only through the head port and the address is kept by every command when
each block's operations keep it. -/
theorem exec_keeps
    (hpon : ∀ s pins, P s → P (s.powerOn pins))
    (hact : ∀ s p x, s.pins.rstN = true → Acts s.trunk p x → P s → P (actOn p x s))
    (hexp : ∀ s, P s → P s.expirePeriod)
    (hsent : ∀ s f r, s.tilt.phase = .sending f r → P s → P (s.demandSent f))
    (hmiss : ∀ s f d, s.tilt.phase = .listening f → P s → P ((s.setTilt (s.tilt.endExchange f)).missExchange f.drive d))
    (hgood : ∀ s f a l k, s.tilt.phase = .listening f → P s → P ((s.setTilt (s.tilt.endExchange f)).goodFeedback f a l k))
    (hlock : ∀ s c, (s.channel c).state = .locking → P s → P (s.lockTimeout c))
    (hunlock : ∀ s, s.node.unlockTimer.isSome = true → P s → P ((s.setUnlockTimer none).raise .unlockTimeout none s.markDetail))
    (hlive : ∀ s, s.supervision.timer.isSome = true → P s → P s.expireLiveness)
    (htach : ∀ s q, P s → P (s.sampleTach q))
    (c : Instr) (s t : State) (h : exec c s = .next t) (hP : P s) : P t := by
  have tel : ∀ p x (s t : State), event (fun s => s.arrive p x (actOn p x)) s = .next t → P s → P t := by
    intro p x s t h hP
    simp only [event, Host.Outcome.next.injEq] at h
    subst h; split
    · rename_i hr; exact arrive_keeps ht p x _ (fun s hr ha hp => hact s p x hr ha hp) s hr hP
    · exact hP
  have ev : ∀ (f : State → State) (s t : State), event f s = .next t → (P s → P (f s)) → P s → P t := by
    intro f s t h hf hP
    simp only [event, Host.Outcome.next.injEq] at h
    subst h; split; exact hf hP; exact hP
  have ty : ∀ (a : Arrival) (b : Body) (f : State → State), (actOn a.port (b.telegram a) = f) →
      ∀ s t, event (fun s => s.arrive a.port (b.telegram a) f) s = .next t → P s → P t := by
    intro a b f hf s t h hP
    subst hf; exact tel _ _ _ _ h hP
  have hh : ∀ (s t : State), (Host.Outcome.next s : Host.Outcome State Fault Refusal) = .next t → s = t := by
    intro s t h; exact Host.Outcome.next.inj h
  cases c with
  | powerOnReset a b => exact hh _ _ h ▸ hpon _ _ hP
  | resetAsserted => exact hh _ _ h ▸ hpon _ _ hP
  | signalAppears p =>
    simp only [exec, execSignalAppears] at h
    exact ev _ _ _ h (fun hP => ht _ _ (by unfold Trunk.signalAppears; split; exact sameHead_setPort _ _ _; exact ⟨rfl,rfl⟩; exact ⟨rfl,rfl⟩) hP) hP
  | portUp p y =>
    simp only [exec, execPortUp] at h
    exact ev _ _ _ h (fun hP => ht _ _ (by unfold Trunk.train; split; exact sameHead_setPort _ _ _; exact ⟨rfl,rfl⟩; exact ⟨rfl,rfl⟩) hP) hP
  | lossOfSignal p =>
    simp only [exec, execLossOfSignal] at h
    exact ev _ _ _ h (fun hP => ht _ _ (sameHead_goDown _ _) hP) hP
  | symbolErrorLimit p =>
    simp only [exec, execSymbolErrorLimit] at h
    exact ev _ _ _ h (fun hP => ht _ _ (sameHead_goDown _ _) hP) hP
  | startDelimiterReceived p =>
    simp only [exec, execStartDelimiterReceived] at h
    exact ev _ _ _ h (fun hP => ht _ _ (by unfold Trunk.startReceiving; split; exact sameHead_setPort _ _ _; exact ⟨rfl,rfl⟩) hP) hP
  | arbiterChoice =>
    simp only [exec, execArbiterChoice] at h
    exact ev _ _ _ h (fun hP => ht _ _ (sameHead_arbiterChoice _) hP) hP
  | transitTransmitStart p =>
    simp only [exec, execTransitTransmitStart] at h
    exact ev _ _ _ h (fun hP => ht _ _ (by unfold Trunk.transitStart; split; exact sameHead_sendTransit _ _; exact ⟨rfl,rfl⟩) hP) hP
  | transmissionEnd p =>
    simp only [exec, execTransmissionEnd] at h
    exact ev _ _ _ h (fun hP => ht _ _ (sameHead_setPort _ _ _) hP) hP
  | passThroughTelegram p x =>
    simp only [exec, execPassThroughTelegram] at h
    exact tel _ _ _ _ h hP
  | unknownKind p x =>
    simp only [exec, execUnknownKind] at h
    exact tel _ _ _ _ h hP
  | receptionCheckFailure p r =>
    simp only [exec, execReceptionCheckFailure, event, Host.Outcome.next.injEq] at h
    subst h; split
    · rename_i hr
      unfold State.receive; split
      · exact arrive_keeps ht _ _ _ (fun s hr ha hp => hact s _ _ hr ha hp) s hr hP
      · split
        · exact ht _ _ (SameHead.trans (sameHead_setPort _ _ _) (sameHead_countRxError _ _)) hP
        · exact hP
    · exact hP
  | position a b =>
    simp only [exec, execPosition] at h
    exact ty a _ _ (by funext s; simp [actOn, body_of_telegram]) _ _ h hP
  | segment a b =>
    simp only [exec, execSegment] at h
    exact ty a _ _ (by funext s; simp [actOn, body_of_telegram]) _ _ h hP
  | withdraw a g i =>
    simp only [exec, execWithdraw] at h
    exact ty a _ _ (by funext s; simp [actOn, body_of_telegram]) _ _ h hP
  | snapshot a =>
    simp only [exec, execSnapshot] at h
    exact ty a _ _ (by funext s; simp [actOn, body_of_telegram]; rfl) _ _ h hP
  | enumerate a n =>
    simp only [exec, execEnumerate] at h
    exact ty a _ _ (by funext s; simp [actOn, body_of_telegram]) _ _ h hP
  | param a i v =>
    simp only [exec, execParam] at h
    exact ty a _ _ (by funext s; simp [actOn, body_of_telegram]; rfl) _ _ h hP
  | tableWrite a b ts =>
    simp only [exec, execTableWrite] at h
    exact ty a _ _ (by funext s; simp [actOn, body_of_telegram]; rfl) _ _ h hP
  | tableThresholds a b f ts =>
    simp only [exec, execTableThresholds] at h
    exact ty a _ _ (by funext s; simp [actOn, body_of_telegram]; rfl) _ _ h hP
  | tableTrim a b f ts =>
    simp only [exec, execTableTrim] at h
    exact ty a _ _ (by funext s; simp [actOn, body_of_telegram]; rfl) _ _ h hP
  | bankVerify a b =>
    simp only [exec, execBankVerify] at h
    exact ty a _ _ (by funext s; simp [actOn, body_of_telegram]; rfl) _ _ h hP
  | bankSwap a =>
    simp only [exec, execBankSwap] at h
    exact ty a _ _ (by funext s; simp [actOn, body_of_telegram]; rfl) _ _ h hP
  | enable a =>
    simp only [exec, execEnable] at h
    exact ty a _ _ (by funext s; simp [actOn, body_of_telegram]; rfl) _ _ h hP
  | disable a =>
    simp only [exec, execDisable] at h
    exact ty a _ _ (by funext s; simp [actOn, body_of_telegram]; rfl) _ _ h hP
  | release a =>
    simp only [exec, execRelease] at h
    exact ty a _ _ (by funext s; simp [actOn, body_of_telegram]; rfl) _ _ h hP
  | clearFaults a =>
    simp only [exec, execClearFaults] at h
    exact ty a _ _ (by funext s; simp [actOn, body_of_telegram]; rfl) _ _ h hP
  | reset a =>
    simp only [exec, execReset] at h
    exact ty a _ _ (by funext s; simp [actOn, body_of_telegram]; rfl) _ _ h hP
  | queryStatus a x y =>
    simp only [exec, execQueryStatus] at h
    exact ty a _ _ (by funext s; simp [actOn, body_of_telegram]; rfl) _ _ h hP
  | queryWindow a x y =>
    simp only [exec, execQueryWindow] at h
    exact ty a _ _ (by funext s; simp [actOn, body_of_telegram]; rfl) _ _ h hP
  | querySegment a x y =>
    simp only [exec, execQuerySegment] at h
    exact ty a _ _ (by funext s; simp [actOn, body_of_telegram]; rfl) _ _ h hP
  | queryTableRow a x y =>
    simp only [exec, execQueryTableRow] at h
    exact ty a _ _ (by funext s; simp [actOn, body_of_telegram]; rfl) _ _ h hP
  | queryThresholds a x y =>
    simp only [exec, execQueryThresholds] at h
    exact ty a _ _ (by funext s; simp [actOn, body_of_telegram]; rfl) _ _ h hP
  | queryFaults a x y =>
    simp only [exec, execQueryFaults] at h
    exact ty a _ _ (by funext s; simp [actOn, body_of_telegram]; rfl) _ _ h hP
  | querySnapshot a x y =>
    simp only [exec, execQuerySnapshot] at h
    exact ty a _ _ (by funext s; simp [actOn, body_of_telegram]; rfl) _ _ h hP
  | querySnapshotPeek a x y =>
    simp only [exec, execQuerySnapshotPeek] at h
    exact ty a _ _ (by funext s; simp [actOn, body_of_telegram]; rfl) _ _ h hP
  | queryParam a x y =>
    simp only [exec, execQueryParam] at h
    exact ty a _ _ (by funext s; simp [actOn, body_of_telegram]; rfl) _ _ h hP
  | queryCounters a x y =>
    simp only [exec, execQueryCounters] at h
    exact ty a _ _ (by funext s; simp [actOn, body_of_telegram]; rfl) _ _ h hP
  | malformedCommand a x =>
    simp only [exec, execMalformedCommand] at h
    exact ty a _ _ (by funext s; simp [actOn, body_of_telegram]; rfl) _ _ h hP
  | malformedQuery a i x y =>
    simp only [exec, execMalformedQuery] at h
    exact ty a _ _ (by funext s; simp [actOn, body_of_telegram]; rfl) _ _ h hP
  | controlPeriodExpiry =>
    simp only [exec, execControlPeriodExpiry] at h
    exact ev _ _ _ h (hexp _) hP
  | tachTransition x y =>
    simp only [exec, execTachTransition] at h
    exact ev _ _ _ h (htach _ _) hP
  | demandSent =>
    simp only [exec, execDemandSent] at h
    exact ev _ _ _ h (fun hP => by split; exact hsent _ _ _ (by assumption) hP; exact hP) hP
  | exchangeWindowClose =>
    simp only [exec, execExchangeWindowClose] at h
    exact ev _ _ _ h (fun hP => by split; exact hmiss _ _ _ (by assumption) hP; exact hP) hP
  | feedbackFrame ch =>
    simp only [exec, execFeedbackFrame] at h
    exact ev _ _ _ h (fun hP => by
      split
      · split
        · exact hmiss _ _ _ (by assumption) hP
        · exact hgood _ _ _ _ _ (by assumption) hP
      · exact hP) hP
  | lockTimeout ch =>
    simp only [exec, execLockTimeout] at h
    exact ev _ _ _ h (fun hP => by split; rename_i e; exact hlock _ _ e.1 hP; exact hP) hP
  | unlockTimeout =>
    simp only [exec, execUnlockTimeout] at h
    exact ev _ _ _ h (fun hP => by split; rename_i e; exact hunlock _ e hP; exact hP) hP
  | livenessTimerExpiry =>
    simp only [exec, execLivenessTimerExpiry] at h
    exact ev _ _ _ h (fun hP => by split; rename_i e; exact hlive _ e hP; exact hP) hP
end

/-! ## Delivery -/

/-- An UP port is UP for the routing. -/
theorem isUp_of_link {t : Trunk} {p : Port} (h : (t.port p).link = .up) : t.isUp p = true := by simp [Trunk.isUp, h]

@[simp] theorem taken_head (s : State) (p : Port) : (s.taken p).trunk.headPort = s.trunk.headPort := by cases p <;> rfl
@[simp] theorem taken_address (s : State) (p : Port) : (s.taken p).trunk.address = s.trunk.address := by cases p <;> rfl

/-- A management telegram that is delivered is taken by its block and not forwarded (TABLE 8-IV). -/
theorem arrive_delivered (s : State) (a : Arrival) (b : Body) (act : State → State) (h : s.Delivers a)
    (hk : isManagementKind b.kind = true) (hl : (b.telegram a).lengthOk = true) :
    s.arrive a.port (b.telegram a) act = act (s.taken a.port) := by
  have h0 : ¬a.dest = 0#8 := by
    intro e; have := h.dest.1; simp [e] at this
  have hr : (s.taken a.port).trunk.route a.port (b.telegram a) = .deliver := by
    simp only [Trunk.route, taken_head, h.head, if_true, Trunk.routeFromHead]
    simp [Trunk.isOwnAddress, taken_address, h.own, Body.telegram, Arrival.telegram, h0, hk]
  unfold State.arrive
  rw [if_pos (isUp_of_link h.live.2), if_pos hl]
  show State.routeGood (s.taken a.port) _ _ _ = _
  unfold State.routeGood
  rw [hr]

/-- A broadcast that is delivered is taken by its block and forwarded (TABLE 8-IV). -/
theorem arrive_broadcast (s : State) (a : Arrival) (b : Body) (act : State → State) (h : s.Broadcasts a)
    (hk : isBroadcastKind b.kind = true) (hl : (b.telegram a).lengthOk = true) :
    s.arrive a.port (b.telegram a) act =
      (act (s.taken a.port)).thenForwards a.port (forwardedForm s.node.state (b.telegram a)) := by
  have hr : (s.taken a.port).trunk.route a.port (b.telegram a) = .act := by
    simp only [Trunk.route, taken_head, h.head, if_true, Trunk.routeFromHead]
    simp [Body.telegram, Arrival.telegram, h.dest, hk]
  unfold State.arrive
  rw [if_pos (isUp_of_link h.live.2), if_pos hl]
  show State.routeGood (s.taken a.port) _ _ _ = _
  unfold State.routeGood
  rw [hr]; rfl

/-- A command taken while RST_N is high is its effect. -/
theorem event_high (f : State → State) (s : State) (h : s.pins.rstN = true) : event f s = .next (f s) := by
  simp [event, h]

/-- A command taken while RST_N is low does nothing. -/
theorem event_low (f : State → State) (s : State) (h : s.pins.rstN = false) : event f s = .next s := by
  simp [event, h]

end Sys2Proof.Machine
end

