-- ==== Sys2Proof/Laws/Trunk.lean ====
section
/-! SUPPORT. The law of the Trunk Unit through each operation of the Trunk Unit: one lemma per operation. -/

namespace Sys2Proof.Machine

theorem trunkLaw_setPort {t : Trunk} (h : t.Law) (p) (q : PortState) (hq : q.Law) : (t.setPort p q).Law := by
  cases p <;> exact ⟨by first | exact hq | exact h.portA, by first | exact hq | exact h.portB, h.queueA, h.queueB, h.own, h.alerts, h.arbiter, h.rxErrors, h.wrongSide, h.drops, h.address, h.headKnown⟩
theorem trunkLaw_port {t : Trunk} (h : t.Law) (p) : (t.port p).Law := by cases p; exact h.portA; exact h.portB
theorem trunkLaw_countRxError {t : Trunk} (h : t.Law) (p) : (t.countRxError p).Law := by
  have := h.rxErrors
  cases p <;> exact ⟨h.portA, h.portB, h.queueA, h.queueB, h.own, h.alerts, h.arbiter, by simp [Trunk.countRxError, bump16]; omega, h.wrongSide, h.drops, h.address, h.headKnown⟩
theorem trunkLaw_countWrongSide {t : Trunk} (h : t.Law) (p) : (t.countWrongSide p).Law := by
  have := h.wrongSide
  cases p <;> exact ⟨h.portA, h.portB, h.queueA, h.queueB, h.own, h.alerts, h.arbiter, h.rxErrors, by simp [Trunk.countWrongSide, bump16]; omega, h.drops, h.address, h.headKnown⟩
theorem trunkLaw_countDrops {t : Trunk} (h : t.Law) (k p) : (t.countDrops k p).Law := by
  have := h.drops
  cases p <;> exact ⟨h.portA, h.portB, h.queueA, h.queueB, h.own, h.alerts, h.arbiter, h.rxErrors, h.wrongSide, by simp [Trunk.countDrops, bumpBy16]; omega, h.address, h.headKnown⟩
theorem trunkLaw_countOwnDrops {t : Trunk} (h : t.Law) (k) : (t.countOwnDrops k).Law := by
  have := h.drops
  exact ⟨h.portA, h.portB, h.queueA, h.queueB, h.own, h.alerts, h.arbiter, h.rxErrors, h.wrongSide, by simp [Trunk.countOwnDrops, bumpBy16]; omega, h.address, h.headKnown⟩
theorem trunkLaw_setQueue {t : Trunk} (h : t.Law) (p q) (hq : q.length ≤ 4) : (t.setQueue p q).Law := by
  cases p <;> exact ⟨h.portA, h.portB, by first | exact hq | exact h.queueA, by first | exact hq | exact h.queueB, h.own, h.alerts, h.arbiter, h.rxErrors, h.wrongSide, h.drops, h.address, h.headKnown⟩
theorem trunkLaw_setOwnArbiter {t : Trunk} (h : t.Law) (o : List Telegram) (n) (ho : o.length ≤ 8) (ha : o.countP (fun x => decide (x.kind = kindAlert)) ≤ 1) (hn : n ≤ 4) : ({ t with own := o, arbiter := n } : Trunk).Law :=
  ⟨h.portA, h.portB, h.queueA, h.queueB, ho, ha, hn, h.rxErrors, h.wrongSide, h.drops, h.address, h.headKnown⟩
theorem trunkLaw_setArbiter {t : Trunk} (h : t.Law) (n) (hn : n ≤ 4) : ({ t with arbiter := n } : Trunk).Law := trunkLaw_setOwnArbiter h t.own n h.own h.alerts hn
theorem trunkLaw_setOwn {t : Trunk} (h : t.Law) (o : List Telegram) (ho : o.length ≤ 8) (ha : o.countP (fun x => decide (x.kind = kindAlert)) ≤ 1) : ({ t with own := o } : Trunk).Law := trunkLaw_setOwnArbiter h o t.arbiter ho ha h.arbiter
theorem trunkLaw_discardOwn {t : Trunk} (h : t.Law) : t.discardOwn.Law := trunkLaw_setOwnArbiter (trunkLaw_countOwnDrops h _) [] 0 (by simp) (by simp) (by omega)
theorem trunkLaw_offer {t : Trunk} (h : t.Law) (p x) : (t.offer p x).Law := by
  unfold Trunk.offer; split
  · rename_i e; have := e.2; simp [Config.transitCapacity] at this; exact trunkLaw_setQueue h _ _ (by simp; omega)
  · exact trunkLaw_countDrops h _ _
theorem trunkLaw_placeOwn {t : Trunk} (h : t.Law) (x : Telegram) (hx : x.kind ≠ kindAlert ∨ t.alertWaits = false) : (t.placeOwn x).Law := by
  unfold Trunk.placeOwn; split
  · rename_i e
    have : t.own.length < 8 := by
      unfold Trunk.ownAccepts at e; split at e
      · cases e
      · simp [Config.ownCapacity] at e; exact of_decide_eq_true e.2
    refine trunkLaw_setOwn h _ (by simp; omega) ?_
    have ha := h.alerts
    rcases hx with hx | hx
    · simpa [List.countP_append, hx] using ha
    · have : t.own.countP (fun x => decide (x.kind = kindAlert)) = 0 := by
        simp [Trunk.alertWaits] at hx; simpa [List.countP_eq_zero] using hx
      simp [List.countP_append, this, List.countP_cons]
      split <;> omega
  · exact trunkLaw_countOwnDrops h _
theorem portLaw_initial : PortState.initial.Law := ⟨by simp [PortState.initial], by simp [PortState.initial], by simp [PortState.initial], by simp [PortState.initial]⟩
theorem trunkLaw_goDown {t : Trunk} (h : t.Law) (p) : (t.goDown p).Law := by
  unfold Trunk.goDown; split
  · refine trunkLaw_setPort ?_ _ _ portLaw_initial
    unfold Trunk.leaveUp
    refine trunkLaw_setArbiter ?_ _ (by omega)
    have a : (t.dropArriving p).Law := by unfold Trunk.dropArriving; split; exact trunkLaw_countRxError h _; exact h
    generalize t.dropArriving p = t at a
    have b : (t.dropTransmitted p).Law := by unfold Trunk.dropTransmitted; split; exact trunkLaw_countDrops a _ _; exact trunkLaw_countOwnDrops a _; exact a
    generalize t.dropTransmitted p = t at b
    have c : (t.dropTransit p).Law := by unfold Trunk.dropTransit; exact trunkLaw_setQueue (trunkLaw_countDrops b _ _) _ _ (by simp)
    generalize t.dropTransit p = t at c
    unfold Trunk.dropOwn; split; exact trunkLaw_discardOwn c; exact c
  · exact trunkLaw_setPort h _ _ portLaw_initial
  · exact h
theorem trainOn_counts : ∀ xs n r, n < 16 → (trainOn n r xs).1 ≤ 16 ∧ ((trainOn n r xs).1 = 16 → (trainOn n r xs).2.isSome) := by
  intro xs; induction xs with
  | nil => intro n r h; simp [trainOn]; omega
  | cons x xs ih =>
    intro n r h
    simp only [trainOn]
    rw [if_neg (by simp [Config.trainingLength]; omega)]
    by_cases h16 : (trainStep n r x).1 < 16
    · exact ih _ _ h16
    · have hs : (trainStep n r x).1 ≤ 16 ∧ ((trainStep n r x).1 = 16 → (trainStep n r x).2.isSome) := by
        unfold trainStep; split
        · simp
        · split <;> simp; omega
      have : ∀ ys m q, 16 ≤ m → trainOn m q ys = (m, q) := by
        intro ys m q hm; cases ys <;> simp [trainOn, Config.trainingLength, hm]
      rw [this _ _ _ (by omega)]; exact hs
theorem trunkLaw_train {t : Trunk} (h : t.Law) (p xs) : (t.train p xs).Law := by
  unfold Trunk.train; split
  · rename_i hl
    have hp := trunkLaw_port h p
    have ht := hp.training hl
    have hn := hp.notUp (by simp [hl])
    have hs := trainOn_counts xs (t.port p).trainCount (t.port p).trainRate ht
    refine trunkLaw_setPort h _ _ ?_
    unfold PortState.train
    by_cases e : 16 ≤ (trainOn (t.port p).trainCount (t.port p).trainRate xs).1
    · have e' : Config.trainingLength ≤ (trainOn (t.port p).trainCount (t.port p).trainRate xs).1 := e
      simp only [e', if_true]
      exact ⟨by simp, fun _ => hs.2 (by omega), by simp, hs.1⟩
    · have e' : ¬Config.trainingLength ≤ (trainOn (t.port p).trainCount (t.port p).trainRate xs).1 := e
      simp only [e', if_false]
      exact ⟨fun _ => hn, by simp [hl], fun _ => by simp only; omega, hs.1⟩
  · exact h
  · exact h
theorem trunkLaw_signalAppears {t : Trunk} (h : t.Law) (p) : (t.signalAppears p).Law := by
  unfold Trunk.signalAppears; split
  · rename_i hl
    have hn := (trunkLaw_port h p).notUp (by simp [hl])
    exact trunkLaw_setPort h _ _ ⟨by simp [hn], by simp, by simp, by simp⟩
  · exact h
  · exact h
theorem trunkLaw_startReceiving {t : Trunk} (h : t.Law) (p) : (t.startReceiving p).Law := by
  unfold Trunk.startReceiving; split
  · rename_i hu; simp [Trunk.isUp] at hu
    have := trunkLaw_port h p
    exact trunkLaw_setPort h _ _ ⟨by simp [hu], this.up, this.training, this.count⟩
  · exact h
theorem trunkLaw_endReceiving {t : Trunk} (h : t.Law) (p) : (t.endReceiving p).Law := by
  have := trunkLaw_port h p
  exact trunkLaw_setPort h _ _ ⟨fun e => ⟨(this.notUp e).1, rfl, (this.notUp e).2.2⟩, this.up, this.training, this.count⟩
theorem trunkLaw_endTransmission {t : Trunk} (h : t.Law) (p) : (t.endTransmission p).Law := by
  have := trunkLaw_port h p
  exact trunkLaw_setPort h _ _ ⟨fun e => ⟨(this.notUp e).1, (this.notUp e).2.1, rfl⟩, this.up, this.training, this.count⟩
theorem trunkLaw_transmit {t : Trunk} (h : t.Law) (p x q) (hu : t.isUp p = true) : (t.transmit p x q).Law := by
  have := trunkLaw_port h p
  simp [Trunk.isUp] at hu
  exact trunkLaw_setPort h _ _ ⟨fun e => absurd hu e, this.up, this.training, this.count⟩
theorem trunkLaw_sendTransit {t : Trunk} (h : t.Law) (p) (hu : t.isUp p = true) : (t.sendTransit p).Law := by
  unfold Trunk.sendTransit; split
  · exact h
  · rename_i x r e
    have hl : (t.queue p).length ≤ 4 := by cases p; exact h.queueA; exact h.queueB
    refine trunkLaw_transmit (trunkLaw_setQueue h _ _ (by simp [e] at hl; omega)) _ _ _ ?_
    cases p <;> exact hu
theorem trunkLaw_sendOwn {t : Trunk} (h : t.Law) (p) (hu : t.isUp p = true) : (t.sendOwn p).Law := by
  unfold Trunk.sendOwn; split
  · exact h
  · rename_i x r e
    have h1 := h.own; have h2 := h.alerts
    rw [e] at h1 h2
    refine trunkLaw_transmit (trunkLaw_setOwn h _ (by simp at h1; omega) (by simp [List.countP_cons] at h2 ⊢; omega)) _ _ _ ?_
    cases p <;> exact hu
theorem trunkLaw_arbiterChoice {t : Trunk} (h : t.Law) : t.arbiterChoice.Law := by
  unfold Trunk.arbiterChoice; split
  · exact h
  · rename_i p _; split
    · rename_i e; have hu : t.isUp p = true := by have := e.1; simp [Trunk.free] at this; exact this.1
      unfold Trunk.arbitrate; (repeat' split)
      · exact trunkLaw_setArbiter (trunkLaw_sendTransit h _ hu) _ (by omega)
      · exact trunkLaw_setArbiter (trunkLaw_sendOwn h _ hu) _ (by omega)
      · rename_i e; simp [Config.arbiterLimit] at e; exact trunkLaw_setArbiter (trunkLaw_sendTransit h _ hu) _ (by omega)
      · exact trunkLaw_setArbiter (trunkLaw_sendOwn h _ hu) _ (by omega)
    · exact h
theorem trunkLaw_transitStart {t : Trunk} (h : t.Law) (p) : (t.transitStart p).Law := by
  unfold Trunk.transitStart; split
  · rename_i e; have := e.2; simp [Trunk.free] at this; exact trunkLaw_sendTransit h _ this.1
  · exact h

/-! ## Through faults and replies -/

theorem trunkLaw_requestAlert {s : State} (h : s.trunk.Law) (c : FaultClass) : (s.requestAlert c).trunk.Law := by
  unfold State.requestAlert; split
  · rename_i e; simp at e; exact trunkLaw_placeOwn h _ (.inr e.2)
  · exact h

/-- What raising a fault can do to the Trunk Unit: nothing, or the placing of an ALERT. -/
theorem raise_trunk (s : State) (c ch d) :
    (s.raise c ch d).trunk = s.trunk ∨ ∃ u : State, u.trunk = s.trunk ∧ (s.raise c ch d).trunk = (u.requestAlert c).trunk := by
  unfold State.raise
  dsimp only
  split
  · right; refine ⟨_, ?_, rfl⟩; split <;> simp
  · left; split <;> simp

theorem trunkLaw_raise {s : State} (h : s.trunk.Law) (c ch d) : (s.raise c ch d).trunk.Law := by
  rcases raise_trunk s c ch d with e | ⟨u, e1, e2⟩
  · rw [e]; exact h
  · rw [e2]; exact trunkLaw_requestAlert (by rw [e1]; exact h) c

theorem trunkLaw_ack {s : State} (h : s.trunk.Law) (k tag r d) : (s.ack k tag r d).trunk.Law :=
  trunkLaw_placeOwn h _ (.inl (show kindAck ≠ kindAlert by decide))

theorem trunkLaw_report {s : State} (h : s.trunk.Law) (k tag r d c) : (s.report k tag r d c).trunk.Law :=
  trunkLaw_placeOwn h _ (.inl (show kindReport ≠ kindAlert by decide))

end Sys2Proof.Machine
end

