-- ==== Sys2Proof/Tests/Slice0.lean ====
section
/-! SUPPORT. The model's own tests on small states, the smoke test of the operand check, and for each statement with
hypotheses a state and operands that meet them. -/

namespace Sys2Proof.Tests
open Sys2Proof Sys2Proof.Machine

/-! ## Small states -/

/-- A command answers a next state with a property. -/
def gives (c : Instr) (s : State) (p : State → Bool) : Bool :=
  match exec c s with
  | .next t => p t
  | .fault _ => false
  | .refused _ => false

/-- A port that has trained. -/
def upPort : PortState :=
  { PortState.initial with link := .up, rate := some .kbit2500, trainCount := 16, trainRate := some .kbit2500 }

/-- Both ports UP, nothing enumerated. -/
def linked2 : State := { State.reset with trunk := { Trunk.initial with portA := upPort, portB := upPort } }

/-- Enumerated as node 1 with head port A. -/
def numbered : State :=
  { linked2 with
    trunk := { linked2.trunk with headPort := some .A, address := some 1 }
    node := { NodeControl.initial with state := .standby } }

/-- A channel with its lock home. -/
def homeChannel : TiltChannel := { TiltChannel.initial with state := .locked, lockTimer := none }

/-- Both channels LOCKED. -/
def parked : State := { numbered with tilt := { Tilt.initial with ch1 := homeChannel, ch2 := homeChannel } }

/-- A bank with the entries 62 for class 12 and 70 for class 14, VERIFIED. -/
def loadedBank : Bank :=
  { rows := ((List.replicate 32 (List.replicate 16 0)).set 12 (List.replicate 16 62)).set 14 (List.replicate 16 70)
    thresholds := [1000, 1400, 1800, 2200, 2600, 3000, 3400, 3800, 4200, 4600, 5000, 5150, 5300, 5500, 5700]
    state := .verified }

def left12 : Profile := { cls := 12, hand := .left, cant := 60 }
def right14 : Profile := { cls := 14, hand := .right, cant := 70 }
def straight : Profile := { cls := 0, hand := .none, cant := 0 }

/-- The segments of TABLE 1-V. -/
def g100 : Segment := ⟨100, 1250000, 4000, .constant, straight, none, none, false⟩
def g101 : Segment := ⟨101, 1254000, 600, .spiral left12, straight, none, some 60, false⟩
def g102 : Segment := ⟨102, 1254600, 2200, .constant, left12, none, none, false⟩
def g103 : Segment := ⟨103, 1256800, 450, .spiral right14, left12, none, some 80, false⟩
def g104 : Segment := ⟨104, 1257250, 1800, .constant, right14, some 50, none, false⟩
def g105 : Segment := ⟨105, 1259050, 500, .spiral straight, right14, none, none, false⟩

/-- The parameters of TABLE 4-IV. -/
def passageParams : Params :=
  { Params.initial with
    carOffset := 1900, carOffsetValid := true, bogieOffset1 := 95, bogieOffset1Valid := true, bogieOffset2 := -95
    bogieOffset2Valid := true, wheelFactor := 4736, wheelFactorValid := true, period := 50, rollRate := 100 }

/-- A node that meets the five preconditions of ENABLE, with the route of TABLE 1-V from segment 102. -/
def ready : State :=
  { parked with
    window := { RouteWindow.initial with segments := [g102, g103, g104, g105] }
    tables := { Tables.initial with bankA := loadedBank }
    odometry := { Odometry.initial with pNode := 1256540, aligned := true, speed := 2000, lastSequence := some 9 }
    node := { parked.node with params := passageParams }
    supervision := { Supervision.initial with stage := .fresh, timer := some 250000 } }

/-- A channel that tilts. -/
def tiltingChannel : TiltChannel := { TiltChannel.initial with state := .tracking, lockTimer := none }

/-- A node that tilts, at a position and with its last demands. -/
def tilting (p d1 d2 : Int) : State :=
  { ready with
    odometry := { ready.odometry with pNode := p }
    generator := { ready.generator with last1 := d1, last2 := d2, period := 50 }
    tilt := { Tilt.initial with ch1 := tiltingChannel, ch2 := tiltingChannel }
    node := { ready.node with state := .active } }

/-- The pair is UNLOCKING. -/
def unlocking : State :=
  { ready with
    tilt :=
      { Tilt.initial with ch1 := homeChannel.enterUnlocking, ch2 := homeChannel.enterUnlocking }
    node := { ready.node with state := .active, unlockTimer := some 1500000 } }

/-- In SAFE with both channels LOCKED. -/
def safe : State := { parked with node := { parked.node with state := .safe } }

/-- A node in WINDDOWN whose channels return. -/
def windingDown : State :=
  { tilting 1256540 0 0 with
    tilt := { Tilt.initial with
      ch1 := { tiltingChannel with state := .returning }, ch2 := { tiltingChannel with state := .returning } }
    node := { (tilting 1256540 0 0).node with state := .winddown } }

/-- The exchange of a channel's drive, with its window open. -/
def frameOf (c : Channel) (demand : Int) (lock : LockRequest) : DemandFrame :=
  { drive := c, sequence := 5, demand := demand, lock := lock }

/-- A state that listens for the drive of a frame. -/
def listening (s : State) (f : DemandFrame) : State :=
  { s with tilt := { s.tilt with phase := .listening f, window := some 2000 } }

/-- A broadcast on port A. -/
def cast : Arrival := { port := .A, dest := 0, source := 32, tag := 7 }

/-- A telegram for node 1 on port A. -/
def mine : Arrival := { port := .A, dest := 1, source := 32, tag := 9 }

/-- A telegram for another node. -/
def stray : Telegram := { kind := 21, dest := 5, source := 32, tag := 3, payload := [] }

/-- A telegram for the supervisor. -/
def upward : Telegram := { kind := 32, dest := 32, source := 5, tag := 3, payload := [22, 0, 0, 0] }

/-- A SEGMENT payload with spare fields that are not 0. -/
def segmentBody (id start length kind : Nat) (entry exit : Nat × Nat × Nat) (flags : Nat) : SegmentBody where
  id := BitVec.ofNat 16 id
  start := BitVec.ofNat 32 start
  length := BitVec.ofNat 16 length
  kind := byteOf kind
  entryClass := byteOf entry.1
  entryHand := byteOf entry.2.1
  entryCant := byteOf entry.2.2
  exitClass := byteOf exit.1
  exitHand := byteOf exit.2.1
  exitCant := byteOf exit.2.2
  tiltLimit := 50
  rateLimit := 60
  flags := byteOf flags

/-- The result and detail of the newest reply in the own queue. -/
def answer (s : State) : List Byte := ((s.trunk.own.getLast?.map (·.payload)).getD []).take 4

/-! ## Operands: the smoke test of the operand check -/

theorem test_wf_refuses_port_rows :
    Instr.wf (.portUp .A []) = false ∧
    Instr.wf (.receptionCheckFailure .A { symbolError := false, bytes := stray.bytes }) = false ∧
    Instr.wf (.passThroughTelegram .A { stray with payload := [1] }) = false ∧
    Instr.wf (.feedbackFrame []) = false := by decide +kernel

theorem test_wf_refuses_unknown_kind_operands :
    Instr.wf (.unknownKind .A { upward with dest := 1, payload := [] }) = false ∧
    Instr.wf (.unknownKind .A { upward with dest := 17 }) = false ∧
    Instr.wf (.unknownKind .A { stray with dest := 1 }) = false := by decide +kernel

theorem test_wf_refuses_addressed_broadcasts :
    Instr.wf (.position mine ⟨1, 0, 0, 0, 0⟩) = false ∧ Instr.wf (.segment mine (segmentBody 1 0 1 0 (0,0,0) (0,0,0) 0)) = false ∧
    Instr.wf (.withdraw mine 3 0) = false ∧ Instr.wf (.snapshot mine) = false ∧ Instr.wf (.enumerate mine 1) = false := by
  decide +kernel

theorem test_wf_refuses_broadcast_management :
    Instr.wf (.param cast 1 0) = false ∧ Instr.wf (.tableWrite cast 2 [⟨1, 0, 0⟩]) = false ∧
    Instr.wf (.tableThresholds cast 2 0 [1]) = false ∧ Instr.wf (.tableTrim cast 2 1 1) = false ∧
    Instr.wf (.bankVerify cast 2) = false ∧ Instr.wf (.bankSwap cast) = false ∧ Instr.wf (.enable cast) = false ∧
    Instr.wf (.disable cast) = false ∧ Instr.wf (.release cast) = false ∧ Instr.wf (.clearFaults cast) = false ∧
    Instr.wf (.reset cast) = false ∧ Instr.wf (.malformedCommand cast 0) = false := by decide +kernel

theorem test_wf_refuses_broadcast_queries :
    Instr.wf (.queryStatus cast 0 0) = false ∧ Instr.wf (.queryWindow cast 0 0) = false ∧
    Instr.wf (.querySegment cast 0 0) = false ∧ Instr.wf (.queryTableRow cast 1 0) = false ∧
    Instr.wf (.queryThresholds cast 1 0) = false ∧ Instr.wf (.queryFaults cast 0 0) = false ∧
    Instr.wf (.querySnapshot cast 0 0) = false ∧ Instr.wf (.querySnapshotPeek cast 0 0) = false ∧
    Instr.wf (.queryParam cast 1 0) = false ∧ Instr.wf (.queryCounters cast 0 0) = false ∧
    Instr.wf (.malformedQuery cast 0 0 0) = false := by decide +kernel

theorem test_wf_refuses_lengths_and_codes :
    Instr.wf (.tableWrite mine 2 []) = false ∧ Instr.wf (.tableWrite mine 2 (List.replicate 8 ⟨1, 0, 0⟩)) = false ∧
    Instr.wf (.tableThresholds mine 2 0 []) = false ∧ Instr.wf (.tableThresholds mine 2 0 (List.replicate 16 1)) = false ∧
    Instr.wf (.malformedCommand mine 1) = false ∧ Instr.wf (.malformedCommand mine 5) = false ∧
    Instr.wf (.malformedQuery mine 1 0 0) = false ∧ Instr.wf (.malformedQuery mine 10 0 0) = false ∧
    Body.wf (.tableWrite 2 []) = false ∧ Body.wf (.tableThresholds 2 0 []) = false := by decide +kernel

theorem test_wf_takes_the_rows :
    Instr.wf (.tableWrite mine 2 (List.replicate 7 ⟨1, 0, 0⟩)) = true ∧ Instr.wf (.malformedCommand mine 6) = true ∧
    Instr.wf (.malformedQuery mine 11 0 0) = true ∧ Instr.wf (.enumerate cast 1) = true ∧
    Instr.wf (.unknownKind .A { upward with dest := 1 }) = true ∧ Instr.wf (.passThroughTelegram .A stray) = true := by
  decide +kernel

/-! ## Formats (chapter 10) -/

/-- The ASCII digits 1 to 9 give 29B1 hex (R166). -/
theorem test_crc16 : crc16 [49, 50, 51, 52, 53, 54, 55, 56, 57] = 0x29B1#16 := by decide +kernel

/-- A REPORT that is refused with a detail, byte by byte (TABLE 10-V). -/
theorem test_report_head :
    gives (.queryParam mine 21 0) ready (fun t =>
      decide (t.trunk.own = [{ kind := 33, dest := 32, source := 1, tag := 9, payload := [9, 4, 1, 1] }])) = true := by
  decide +kernel

/-- The lock request of each channel state (TABLE 5-IV). -/
theorem test_lock_requests :
    [ChannelState.locked, .unlocking, .tracking, .returning, .locking, .failed].map ChannelState.lockRequest =
      [.engage, .release, .release, .release, .engage, .engage] := by decide

/-- The same characters give F4 hex (R169). -/
theorem test_crc8 : crc8 [49, 50, 51, 52, 53, 54, 55, 56, 57] = 0xF4#8 := by decide +kernel

/-- The header of TABLE 10-I and the payload of TABLE 10-III, most significant bytes first. -/
theorem test_position_bytes :
    ((Body.position ⟨0x1234, 0x0033E901, 2000, 1, 1⟩).telegram cast).covered =
      [1, 0, 32, 0, 7, 10, 0x12, 0x34, 0x00, 0x33, 0xE9, 0x01, 0x07, 0xD0, 1, 1] := by decide +kernel

/-- The payload of TABLE 10-IV for segment 101. -/
theorem test_segment_bytes :
    (Body.segment (segmentBody 101 1254000 600 1 (0, 0, 0) (12, 1, 60) 2)).payload =
      [0, 101, 0x00, 0x13, 0x22, 0x70, 0x02, 0x58, 1, 0, 0, 0, 12, 1, 60, 50, 60, 2] := by decide +kernel

/-- A DEMAND frame of TABLE 10-VI with a negative demand. -/
theorem test_demand_chars : (frameOf .CH2 (-62) .release).fields = [2, 5, 0xC2, 2] := by decide +kernel

/-- A character on the drive link: start bit, 31 hex least significant bit first, stop bit; a stop bit at 0 is a framing
error (R169). -/
theorem test_character_bits :
    (LineChar.ofByte 0x31).line = [false, true, false, false, false, true, true, false, false, true] ∧
    ({ bits := 0x055 } : LineChar).framingError = true ∧ ({ bits := 0x155 } : LineChar).framingError = false ∧
    ({ bits := 0x155 } : LineChar).data = 0x55 := by decide +kernel

/-- A frame whose bytes are right and whose last stop bit is 0 is a CHECK defect (R91, R92, R169). -/
theorem test_framing_error :
    gives (.feedbackFrame
        ((goodFrame (frameOf .CH1 0 .engage) 0 .engaged 0).dropLast ++
          ((goodFrame (frameOf .CH1 0 .engage) 0 .engaged 0).drop 6).map (fun c => { bits := c.bits &&& 0xFF })))
      (listening (ready.setChannel .CH1 { homeChannel with misses := 2 }) (frameOf .CH1 0 .engage))
      (fun t => decide (t.supervision.faults.map (fun r => (r.cls, r.detail)) = [(.feedback, 4)])) = true := by
  decide +kernel

/-- The transmit rates of R171. -/
theorem test_rate_sel :
    rateOfStrap false false = .kbit1250 ∧ rateOfStrap false true = .kbit2500 ∧ rateOfStrap true false = .kbit5000 ∧
    rateOfStrap true true = .kbit1250 := by decide

/-- The permitted lengths of TABLE 10-II at the ends of their ranges. -/
theorem test_permitted_lengths :
    [4, 7, 22, 25, 5].map (permittedLength 17) = [true, true, true, false, false] ∧
    [4, 32, 34, 5].map (permittedLength 18) = [true, true, false, false] ∧
    [3, 4, 40, 41].map (permittedLength 33) = [false, true, true, false] ∧
    [0, 40, 41].map (permittedLength 99) = [true, true, false] := by decide +kernel

/-! ## Resets and time -/

theorem test_power_on_reset :
    gives (.powerOnReset true false) (tilting 5 6 7)
      (fun t => decide (t = { State.reset with pins := ⟨true, true, false⟩ })) = true := by decide +kernel

theorem test_reset_asserted :
    gives .resetAsserted ready (fun t => !t.pins.rstN && decide (t.node.state = .offline) &&
      gives .controlPeriodExpiry t (fun u => decide (u = t))) = true := by decide +kernel

/-- The first expiry falls 10 ms after the reset: the tick counts down to it. -/
theorem test_tick :
    State.reset.tick.generator.timer = 9999 ∧ State.reset.tick.tilt.ch1.lockTimer = some 1499999 ∧
    ({ State.reset with generator := { Generator.initial with timer := 0 } } : State).tick.pending =
      [.controlPeriodExpiry] := by decide +kernel

/-! ## Trunk -/

theorem test_signal_appears :
    gives (.signalAppears .B) State.reset (fun t => decide (t.trunk.portB.link = .training)) = true := by decide +kernel

/-- Sixteen good symbols of one rate take the port UP; a symbol of another rate restarts the count at 1 (R146). -/
theorem test_port_up :
    gives (.signalAppears .A) State.reset (fun s =>
      gives (.portUp .A (List.replicate 16 (some .kbit5000))) s (fun t =>
        decide (t.trunk.portA.link = .up) && decide (t.trunk.portA.rate = some .kbit5000)) &&
      gives (.portUp .A (List.replicate 15 (some .kbit5000) ++ [some .kbit2500])) s (fun t =>
        decide (t.trunk.portA.link = .training) && decide (t.trunk.portA.trainCount = 1))) = true := by decide +kernel

/-- A port that leaves UP loses its queue, its transmission and the telegram arriving (R147). -/
theorem test_loss_of_signal :
    gives (.lossOfSignal .A)
      (numbered.setTrunk { numbered.trunk with
        portA := { upPort with receiving := some [1], sending := some (upward, .transit) }
        queueA := [upward, upward], own := [upward], arbiter := 3 })
      (fun t => decide (t.trunk = { numbered.trunk with
        portA := PortState.initial, rxErrorsA := 1, dropsA := 3, ownDrops := 1 })) = true := by decide +kernel

theorem test_symbol_error_limit :
    gives (.symbolErrorLimit .B) numbered (fun t =>
      decide (t.trunk = { numbered.trunk with portB := PortState.initial })) = true := by decide +kernel

theorem test_start_delimiter :
    gives (.startDelimiterReceived .A) numbered (fun t => decide (t.trunk.portA.receiving = some [])) = true := by
  decide +kernel

/-- A byte changed on the line fails CHECK; the telegram is counted and nothing else (R148). -/
theorem test_reception_check_failure :
    gives (.receptionCheckFailure .A { symbolError := false, bytes := stray.bytes.set 1 6 }) numbered
      (fun t => decide (t.trunk = { numbered.trunk with rxErrorsA := 1 })) = true ∧
    gives (.receptionCheckFailure .A { symbolError := false, bytes := stray.bytes }) numbered
      (fun t => decide (t.trunk = { numbered.trunk with queueB := [stray] })) = true := by decide +kernel

theorem test_pass_through :
    gives (.passThroughTelegram .A stray) numbered (fun t => decide (t.trunk = { numbered.trunk with queueB := [stray] })) =
      true ∧
    gives (.passThroughTelegram .B upward) numbered (fun t => decide (t.trunk = { numbered.trunk with queueA := [upward] })) =
      true ∧
    gives (.passThroughTelegram .A upward) numbered (fun t => decide (t.trunk = { numbered.trunk with wrongSideA := 1 })) =
      true := by decide +kernel

theorem test_unknown_kind :
    gives (.unknownKind .A { upward with dest := 1 }) numbered (fun t =>
      decide (t.trunk.own = [{ kind := 32, dest := 32, source := 1, tag := 3, payload := [32, 9, 0, 0] }])) = true := by
  decide +kernel

/-- 8.6.1: four transit telegrams are sent before the waiting own telegram. -/
theorem test_arbiter_choice :
    gives .arbiterChoice (numbered.setTrunk { numbered.trunk with queueA := [upward], own := [stray], arbiter := 3 })
      (fun t => decide (t.trunk.portA.sending = some (upward, .transit)) && decide (t.trunk.arbiter = 4)) = true ∧
    gives .arbiterChoice (numbered.setTrunk { numbered.trunk with queueA := [upward], own := [stray], arbiter := 4 })
      (fun t => decide (t.trunk.portA.sending = some (stray, .own)) && decide (t.trunk.arbiter = 0)) = true := by
  decide +kernel

theorem test_transit_transmit_start :
    gives (.transitTransmitStart .B) (numbered.setTrunk { numbered.trunk with queueB := [stray, upward] }) (fun t =>
      decide (t.trunk.portB.sending = some (stray, .transit)) && decide (t.trunk.queueB = [upward])) = true := by
  decide +kernel

theorem test_transmission_end :
    gives (.transmissionEnd .B)
      (numbered.setTrunk { numbered.trunk with portB := { upPort with sending := some (stray, .transit) } })
      (fun t => decide (t = numbered)) = true := by decide +kernel

/-- The first node takes address 1 and forwards 2; the window and the alignment are emptied (R155, R156). -/
theorem test_enumerate :
    gives (.enumerate cast 1) linked2 (fun t =>
      decide (t.node.state = .standby) && decide (t.trunk.address = some 1) && decide (t.trunk.headPort = some .A) &&
      decide (t.trunk.queueB.map (·.payload) = [[2]]) &&
      decide (t.window.lastWithdrawal = some ⟨.all, none, .all, 0⟩)) = true := by decide +kernel

/-- The seventeenth node goes OFFLINE and raises ENUMERATION with detail 1 (R157). -/
theorem test_enumerate_beyond_sixteen :
    gives (.enumerate cast 17) numbered (fun t =>
      decide (t.node.state = .offline) && decide (t.trunk.address = none) &&
      decide (t.supervision.faults.map (fun r => (r.cls, r.node, r.detail)) = [(.enumeration, .offline, 1)]) &&
      decide (t.trunk.queueB.map (·.payload) = [[17]]) && decide (t.trunk.own = [])) = true := by decide +kernel

/-! ## Route Window -/

/-- TABLE 1-VI, step 6: segment 103 after 102 is appended and clears the flag. -/
theorem test_segment_appended :
    gives (.segment cast (segmentBody 103 1256800 450 1 (12, 1, 60) (14, 2, 70) 0xF0))
      (numbered.setWindow { RouteWindow.initial with segments := [g102], reported := true })
      (fun t => decide (t.window.segments = [g102, { g103 with rateLimit := none }]) && !t.window.reported &&
        decide (t.trunk.queueB.length = 1)) = true := by decide +kernel

/-- TABLE 1-VI, step 4: segment 104 after 102 is refused GAP, with a WINDOW fault of detail 3. -/
theorem test_segment_refused :
    gives (.segment cast (segmentBody 104 1257250 1800 0 (14, 2, 70) (9, 9, 9) 1))
      (numbered.setWindow { RouteWindow.initial with segments := [g102] })
      (fun t => decide (t.window.segments = [g102]) && decide (t.window.lastRefusal = some ⟨.gap, 104⟩) &&
        t.window.reported && decide (t.supervision.faults.map (fun r => (r.cls, r.detail)) = [(.window, 3)]) &&
        decide (t.trunk.own.map (·.payload) = [[0, 9, 1, 0]])) = true := by decide +kernel

/-- 1.8.7.1: WITHDRAW ONE 104 removes 104 and 105 and is performed FROM. -/
theorem test_withdraw :
    gives (.withdraw cast 1 104) ready (fun t =>
      decide (t.window.segments = [g102, g103]) &&
      decide (t.window.lastWithdrawal = some ⟨.one, some 104, .from, 2⟩)) = true := by decide +kernel

/-- TABLE 1-VII. -/
theorem test_evaluation :
    [(g101.target loadedBank 3 1254405, g101.cantAt 1254405), (g102.target loadedBank 3 1255000, g102.cantAt 1255000),
      (g103.target loadedBank 3 1256950, g103.cantAt 1256950), (g104.target loadedBank 3 1258000, g104.cantAt 1258000)] =
      [(41, 40), (62, 60), (18, 17), (-70, -70)] ∧
    [ready.cap g102, ready.cap g103, ready.cap g104] = [80, 80, 50] := by decide +kernel

/-! ## Schedule Tables -/

theorem test_table_write :
    gives (.tableWrite mine 2 [⟨31, 15, 100⟩, ⟨1, 0, 7⟩]) ready (fun t =>
      decide (t.tables.bankB.entry 31 15 = 100) && decide (t.tables.bankB.entry 1 0 = 7) &&
      decide (t.tables.bankB.state = .loading) && decide (answer t = [17, 0, 0, 0])) = true ∧
    gives (.tableWrite mine 2 [⟨31, 15, 100⟩, ⟨1, 16, 7⟩]) ready (fun t =>
      decide (t.tables = ready.tables) && decide (answer t = [17, 4, 1, 2])) = true := by decide +kernel

theorem test_table_thresholds :
    gives (.tableThresholds mine 2 14 [10000]) ready (fun t =>
      decide (t.tables.bankB.thresholds = List.replicate 14 0 ++ [10000]) && decide (answer t = [18, 0, 0, 0])) = true ∧
    gives (.tableThresholds mine 2 14 [1, 2]) ready (fun t => decide (answer t = [18, 4, 1, 0])) = true := by
  decide +kernel

theorem test_table_trim :
    gives (.tableTrim mine 1 12 (-30)) { ready with tables := { ready.tables with active := .B } } (fun t =>
      decide (t.tables.bankA.entry 12 3 = 32) && decide (answer t = [19, 0, 0, 0])) = true ∧
    gives (.tableTrim mine 2 0 1) ready (fun t => decide (answer t = [19, 4, 1, 1])) = true := by decide +kernel

theorem test_bank_verify :
    gives (.bankVerify mine 2) { ready with tables := { ready.tables with bankB := { loadedBank with state := .loading } } }
      (fun t => decide (t.tables.bankB.state = .verified) && decide (answer t = [20, 0, 0, 0])) = true ∧
    gives (.bankVerify mine 2) ready (fun t => decide (answer t = [20, 5, 1, 1])) = true := by decide +kernel

theorem test_bank_swap :
    gives (.bankSwap mine) { ready with tables := { ready.tables with bankB := loadedBank } } (fun t =>
      t.tables.swapPending && decide (t.tables.active = .A) && decide (answer t = [21, 1, 0, 0])) = true ∧
    gives (.bankSwap mine) ready (fun t => decide (answer t = [21, 5, 1, 1])) = true := by decide +kernel

/-! ## Odometry -/

/-- A forward transition adds the wheel factor (R48). -/
theorem test_tach_count :
    gives (.tachTransition true false) { ready with odometry := { ready.odometry with phase := some (false, false) } }
      (fun t => decide (t.odometry.pNode = 1256540) && decide (t.odometry.fraction = 4736) &&
        decide (t.odometry.phase = some (true, false))) = true := by decide +kernel

theorem test_tach_phase_fault :
    gives (.tachTransition true true)
      { ready with odometry := { ready.odometry with phase := some (false, false), phaseFaults := 15 } }
      (fun t => decide (t.odometry.phaseFaults = 16) && decide (t.node.state = .safe) &&
        decide (t.supervision.faults.map (fun r => (r.cls, r.detail)) = [(.odometry, 2)])) = true := by decide +kernel

/-- A fix activates a staged wheel factor and sets the position (R54, R58). -/
theorem test_position_fix :
    gives (.position cast ⟨10, 1258450, 2100, 0, 1⟩)
      { ready with odometry := { ready.odometry with stagedFactor := some 4712 } }
      (fun t => decide (t.odometry.pNode = 1256550) && decide (t.params.wheelFactor = 4712) &&
        decide (t.odometry.speed = 2100) && decide (t.supervision.timer = some 250000)) = true := by decide +kernel

/-- The same sequence number again is stale (R51). -/
theorem test_position_stale :
    gives (.position cast ⟨9, 1258450, 2100, 0, 1⟩) ready (fun t =>
      decide (t.odometry = { ready.odometry with stalePositions := 1 })) = true := by decide +kernel

/-! ## Node Control -/

theorem test_param :
    gives (.param mine 7 50) parked (fun t => decide (t.params.period = 50) && decide (answer t = [16, 0, 0, 0])) = true ∧
    gives (.param mine 7 51) parked (fun t => decide (t.params.period = 10) && decide (answer t = [16, 4, 1, 2])) = true := by
  decide +kernel

theorem test_enable :
    gives (.enable mine) ready (fun t =>
      decide (t.node.state = .active) && decide (t.tilt.ch1.state = .unlocking) && decide (answer t = [22, 0, 0, 0])) = true ∧
    gives (.enable mine) parked (fun t => decide (t.node.state = .standby) && decide (answer t = [22, 7, 1, 1])) = true := by
  decide +kernel

theorem test_disable :
    gives (.disable mine) (tilting 1256540 62 62) (fun t =>
      decide (t.node.state = .winddown) && decide (t.tilt.ch2.state = .returning) && decide (answer t = [22, 0, 0, 0])) =
      true := by decide +kernel

theorem test_release :
    gives (.release mine) safe (fun t => decide (t.node.state = .standby) && decide (answer t = [22, 0, 0, 0])) = true ∧
    gives (.release mine) parked (fun t => decide (answer t = [22, 2, 0, 0])) = true := by decide +kernel

theorem test_clear_faults :
    gives (.clearFaults mine)
      { safe with supervision := { Supervision.initial with overflow := true, overflowCount := 3, sequence := 8 } }
      (fun t => decide (t.supervision = { Supervision.initial with sequence := 8 })) = true := by decide +kernel

theorem test_reset :
    gives (.reset mine) ready (fun t =>
      decide (t.window = RouteWindow.initial) && decide (t.trunk.address = some 1) && decide (t.node.state = .standby) &&
      decide (t.tilt.ch1.state = .locking) && decide (answer t = [22, 0, 0, 0])) = true := by decide +kernel

theorem test_malformed_command :
    gives (.malformedCommand mine 6) ready (fun t => decide (answer t = [22, 8, 0, 0])) = true := by decide +kernel

/-! ## Queries -/

theorem test_query_status :
    gives (.queryStatus mine 0 0) ready (fun t =>
      decide (answer t = [1, 0, 0, 0]) && decide (t.trunk.own.map (·.payload.length) = [39])) = true := by decide +kernel

theorem test_query_window :
    ready.window.contents =
      [4, 1, 0, 102, 0x00, 0x13, 0x24, 0xC8, 0, 105, 0x00, 0x13, 0x38, 0x1E, 0, 0, 0, 0, 0, 0, 0, 0, 0, 0, 0, 0, 0] ∧
    gives (.queryWindow mine 0 0) ready (fun t => decide (answer t = [2, 0, 0, 0])) = true := by decide +kernel

theorem test_query_segment :
    ready.window.segmentContents 2 = [1, 0, 104, 0x00, 0x13, 0x2F, 0x22, 0x07, 0x08, 0, 14, 2, 70, 0, 0, 0, 50, 0, 1] ∧
    ready.window.segmentContents 4 = [0] ∧
    gives (.querySegment mine 4 0) ready (fun t => decide (answer t = [3, 0, 0, 0])) = true := by decide +kernel

theorem test_query_table_row :
    gives (.queryTableRow mine 1 12) ready (fun t =>
      decide (t.trunk.own.map (·.payload) = [[4, 0, 0, 0] ++ List.replicate 16 62])) = true ∧
    gives (.queryTableRow mine 1 32) ready (fun t => decide (t.trunk.own.map (·.payload) = [[4, 4, 1, 2]])) = true := by
  decide +kernel

theorem test_query_thresholds :
    gives (.queryThresholds mine 1 0) ready (fun t =>
      decide (t.trunk.own.map (fun x => (x.payload.length, (x.payload.drop 4).take 4)) = [(34, [3, 0xE8, 5, 0x78])])) = true := by
  decide +kernel

theorem test_query_faults :
    gives (.queryFaults mine 7 0)
      { ready with supervision := { ready.supervision with
        faults := List.replicate 8 ⟨4, .drive, some .CH2, .active, some (-2), 9⟩, sequence := 12 } }
      (fun t => decide (t.trunk.own.map (·.payload) =
        [[6, 0, 0, 0, 1, 8, 0, 0, 0, 12, 4, 3, 2, 2, 1, 0xFF, 0xFF, 0xFF, 0xFE, 9]])) = true := by decide +kernel

/-- A destructive query empties the register and a peek does not (R143). -/
theorem test_query_snapshot :
    gives (.snapshot cast) ready (fun s =>
      s.supervision.snapshot.isSome &&
      gives (.querySnapshot mine 0 0) s (fun t => t.supervision.snapshot.isNone && decide (answer t = [7, 0, 0, 0])) &&
      gives (.querySnapshotPeek mine 0 0) s (fun t =>
        t.supervision.snapshot.isSome && decide (t.trunk.own.map (·.payload.length) = [28]))) = true := by decide +kernel

theorem test_query_param :
    gives (.queryParam mine 3 0) ready (fun t =>
      decide (t.trunk.own.map (·.payload) = [[9, 0, 0, 0, 3, 0xFF, 0xFF, 0xFF, 0xA1, 1, 0, 0, 0, 0, 0]])) = true := by
  decide +kernel

theorem test_query_counters :
    gives (.queryCounters mine 0 0) (ready.setTrunk { ready.trunk with rxErrorsB := 258, dropsB := 3 }) (fun t =>
      decide (t.trunk.own.map (fun x => x.payload.drop 4) =
        [[0, 0, 1, 2, 0, 0, 0, 0, 0, 3] ++ List.replicate 16 0 ++ [2, 2, 2, 2]])) = true := by decide +kernel

theorem test_malformed_query :
    gives (.malformedQuery mine 11 0 0) ready (fun t => decide (t.trunk.own.map (·.payload) = [[11, 8, 0, 0]])) = true := by
  decide +kernel

/-! ## Demands and drive link -/

/-- TABLE 4-V, expiry 1, and TABLE 4-VI, expiry 12. -/
theorem test_control_period_expiry :
    gives .controlPeriodExpiry (tilting 1256550 62 62) (fun t =>
      decide ((t.generator.last1, t.generator.last2) = (63, 62)) && decide (t.generator.timer = 50000) && t.dlDir) = true ∧
    gives .controlPeriodExpiry (tilting 1256660 80 58) (fun t =>
      decide ((t.generator.last1, t.generator.last2) = (80, 54))) = true := by decide +kernel

/-- With the route withdrawn beyond the look points the pair returns for runout and the runout is counted (R71, R25). -/
theorem test_runout :
    gives .controlPeriodExpiry ((tilting 1256660 80 58).setWindow { RouteWindow.initial with segments := [g102] }) (fun t =>
      decide ((t.generator.last1, t.generator.last2) = (79, 57)) && t.generator.runout &&
      decide (t.tilt.ch1.state = .returning) && decide (t.window.runouts = 1)) = true := by decide +kernel

theorem test_demand_sent :
    gives .demandSent
      { ready with tilt := { ready.tilt with phase := .sending (frameOf .CH1 (-3) .release) 0 } }
      (fun t => decide (t.tilt.ch1.lastSent = -3) && decide (t.tilt.ch1.sequence = 1) &&
        decide (t.tilt.window = some 2000) && !t.dlDir) = true := by decide +kernel

/-- The paired unlock (R99). -/
theorem test_feedback_unlocks :
    gives (.feedbackFrame (goodFrame (frameOf .CH2 0 .release) 0 .released 0))
      (listening (unlocking.setChannel .CH1 { unlocking.tilt.ch1 with mark := true }) (frameOf .CH2 0 .release))
      (fun t => t.bothIn .tracking && t.node.unlockTimer.isNone && decide (t.tilt.phase = .idle)) = true := by
  decide +kernel

/-- A frame with the sequence number of another DEMAND is STALE: the miss is counted and nothing of it is used (R92, R93). -/
theorem test_feedback_stale :
    gives (.feedbackFrame (goodFrame { frameOf .CH1 0 .engage with sequence := 4 } 0 .released 0))
      (listening ready (frameOf .CH1 0 .engage))
      (fun t => decide (t.tilt.ch1 = { homeChannel with misses := 1, lateFeedbacks := 1 })) = true := by decide +kernel

/-- The third miss raises FEEDBACK with NO_REPLY (R93). -/
theorem test_exchange_window_close :
    gives .exchangeWindowClose
      (listening (ready.setChannel .CH1 { homeChannel with misses := 2 }) (frameOf .CH1 0 .engage))
      (fun t => decide (t.node.state = .safe) &&
        decide (t.supervision.faults.map (fun r => (r.cls, r.channel, r.detail)) = [(.feedback, some .CH1, 1)])) = true := by
  decide +kernel

theorem test_lock_timeout :
    gives (.lockTimeout .CH2) numbered (fun t =>
      decide (t.tilt.ch2.state = .failed) && decide (t.node.state = .safe) &&
      decide (t.supervision.faults.map (fun r => (r.cls, r.channel)) = [(.lockTimeout, some .CH2)])) = true := by
  decide +kernel

theorem test_unlock_timeout :
    gives .unlockTimeout (unlocking.setChannel .CH2 { unlocking.tilt.ch2 with mark := true }) (fun t =>
      decide (t.node.state = .safe) && t.bothIn .locking && decide (t.tilt.ch1.lockTimer = some 1500000) &&
      decide (t.supervision.faults.map (fun r => (r.cls, r.detail)) = [(.unlockTimeout, 2)])) = true := by decide +kernel

theorem test_liveness_timer_expiry :
    gives .livenessTimerExpiry ready (fun s => decide (s.supervision.stage = .stale)) = true ∧
    gives .livenessTimerExpiry
      { tilting 1256540 62 62 with supervision := { Supervision.initial with stage := .stale, timer := some 0 } }
      (fun t => decide (t.supervision.stage = .lost) && decide (t.node.state = .safe) &&
        decide (t.supervision.faults.map (·.cls) = [.liveness])) = true := by decide +kernel

theorem test_snapshot :
    gives (.snapshot cast) (tilting 1256540 62 62) (fun t =>
      decide (t.supervision.snapshot.map (fun p => (p.tag, p.ch1.lastDemand, p.depth)) = some (7, 62, 4))) = true := by
  decide +kernel

/-! ## Witnesses: for every statement with hypotheses, states and operands that meet them, clause by clause -/

/-- A bank being written. -/
def loadingBank : Bank := { loadedBank with state := .loading }

/-- Bank A active and VERIFIED, bank B being written. -/
def revising : State := { ready with tables := { Tables.initial with bankA := loadedBank, bankB := loadingBank } }

/-- A swap is pending between two VERIFIED banks. -/
def swapping : State :=
  { ready with tables := { bankA := loadedBank, bankB := loadedBank, active := .A, swapPending := true } }

/-- A fault record. -/
def someRecord : FaultRecord := ⟨4, .drive, some .CH2, .active, some (-2), 9⟩

/-- A list of fault records. -/
def withFaults (n : Nat) (s : State) : State :=
  { s with supervision := { s.supervision with faults := List.replicate n someRecord, sequence := 5 } }

/-- A pair RETURNING for runout in an ACTIVE node. -/
def inRunout : State :=
  { tilting 1256540 62 62 with
    generator := { (tilting 1256540 62 62).generator with runout := true }
    tilt := windingDown.tilt }

theorem numbered_portLaw : upPort.Law := ⟨by decide, by decide, by decide, by decide⟩

theorem numbered_trunkLaw : numbered.trunk.Law where
  portA := numbered_portLaw
  portB := numbered_portLaw
  queueA := by decide
  queueB := by decide
  own := by decide
  alerts := by decide
  arbiter := by decide
  rxErrors := by decide
  wrongSide := by decide
  drops := by decide
  address := by intro n h; cases h; decide
  headKnown := by decide

theorem ready_windowLaw : ready.window.Law where
  depth := by decide
  wellFormed := by decide +kernel
  linked := ⟨⟨by decide, by decide, by decide⟩, ⟨by decide, by decide, by decide⟩, ⟨by decide, by decide, by decide⟩,
    trivial⟩
  refusals := by decide
  runouts := by decide

theorem loadedBank_law : loadedBank.Law where
  rows := by decide +kernel
  columns := by decide +kernel
  entries := by decide +kernel
  thresholds := by decide +kernel
  speeds := by decide +kernel
  emptyZero := by intro h; cases h
  verified := by intro _; decide +kernel

theorem loadingBank_law : loadingBank.Law :=
  { loadedBank_law with
    emptyZero := by intro h; cases h
    verified := by intro h; cases h }

theorem emptyBank_law : Bank.initial.Law where
  rows := by decide +kernel
  columns := by decide +kernel
  entries := by decide +kernel
  thresholds := by decide +kernel
  speeds := by decide +kernel
  emptyZero := by intro _; decide +kernel
  verified := by intro h; cases h

theorem ready_paramsLaw : ready.params.Law := by intro i; cases i <;> decide +kernel

theorem ready_odometryLaw : ready.odometry.Law where
  fraction := by decide
  lower := by decide
  upper := by decide
  speed := by decide
  discrepancies := by decide
  phaseFaults := by decide
  totals := by decide
  staged := by intro f h; cases h

theorem tilting_modeLaw : (tilting 1256540 62 62).ModeLaw where
  headKnown := by decide
  addressHeld := by decide
  channel1 := by decide
  channel2 := by decide
  pair := by decide
  runout := by decide
  alignedOnline := by decide
  activeReady := by decide
  activeBank := by decide +kernel
  swap := by decide +kernel
  unlock := by decide
  marks := by intro c; cases c <;> decide
  lockTimers := by intro c; cases c <;> decide
  demandZero := by intro c; cases c <;> decide
  frames := by decide

theorem tilting_demandLaw : (tilting 1256540 62 62).DemandLaw where
  mode := tilting_modeLaw
  params := ready_paramsLaw
  odometry := by
    exact { ready_odometryLaw with lower := by decide, upper := by decide }
  bound := by intro c; cases c <;> decide
  framed := by decide
  engaged := by decide

theorem cast_broadcast (s : State) (h1 : s.pins.rstN = true) (h2 : (s.trunk.port .A).link = .up)
    (h3 : s.trunk.headPort = some .A) : s.Broadcasts cast := ⟨⟨h1, h2⟩, h3, rfl⟩

theorem mine_delivered (s : State) (h1 : s.pins.rstN = true) (h2 : (s.trunk.port .A).link = .up)
    (h3 : s.trunk.headPort = some .A) (h4 : s.trunk.address = some 1) : s.Delivers mine :=
  ⟨⟨h1, h2⟩, h3, h4, by decide⟩

/-! ### The step, the tick and the resets -/

theorem witness_StepTakesFrontCommand :
    ({ ready with pending := [.arbiterChoice, .snapshot cast] } : State).pending = .arbiterChoice :: [.snapshot cast] := rfl

theorem witness_EmptyQueueLetsTimePass :
    (({ ready with pins := ⟨false, false, false⟩ } : State).pending = [] ∧
      ({ ready with pins := ⟨false, false, false⟩ } : State).pins.rstN = false) ∧
    (ready.pending = [] ∧ ready.pins.rstN = true ∧ ready.due = []) ∧
    (({ ready with generator := { ready.generator with timer := 0 } } : State).pins.rstN = true ∧
      ({ ready with generator := { ready.generator with timer := 0 } } : State).due ≠ []) := by decide +kernel

theorem witness_ResetPinHoldsTheNode :
    ({ ready with pins := ⟨false, true, false⟩ } : State).pins.rstN = false ∧
    ({ ready with pins := ⟨false, true, false⟩ } : State).pending = [] ∧
    (∀ x y, Instr.arbiterChoice ≠ .powerOnReset x y) ∧ Instr.arbiterChoice ≠ .resetAsserted := by
  refine ⟨rfl, rfl, ?_, ?_⟩ <;> intros <;> intro h <;> cases h

/-! ### The Trunk Unit -/

theorem witness_SignalStartsTraining :
    (State.reset.pins.rstN = true ∧ (State.reset.trunk.port .A).link = .down) ∧
    (numbered.pins.rstN = true ∧ (numbered.trunk.port .A).link ≠ .down) := by decide

/-- A port in TRAINING with a count. -/
def training (n : Nat) : State :=
  State.reset.setTrunk { Trunk.initial with portA :=
    { PortState.initial with link := .training, trainCount := n, trainRate := some .kbit1250 } }

theorem witness_TrainingCountsSymbols :
    ((training 0).pins.rstN = true ∧ ((training 0).trunk.port .A).link = .training ∧
      ((training 0).trunk.port .A).trainCount < 16) ∧
    (((training 15).trunk.port .A).link = .training ∧ ((training 15).trunk.port .A).trainCount < 16 ∧
      ((training 15).trunk.port .A).trainCount = 15 ∧ ((training 15).trunk.port .A).trainRate = some .kbit1250) ∧
    (numbered.trunk.port .A).link ≠ .training := by decide

theorem witness_LinkLossDiscardsAndCounts :
    (numbered.pins.rstN = true ∧ (numbered.trunk.port .A).link = .up ∧ (numbered.trunk.port .B).link = .up ∧
      numbered.trunk.Law) ∧
    ((training 3).pins.rstN = true ∧ ((training 3).trunk.port .A).link = .training) ∧
    (State.reset.pins.rstN = true ∧ (State.reset.trunk.port .A).link = .down) :=
  ⟨⟨rfl, rfl, rfl, numbered_trunkLaw⟩, ⟨rfl, rfl⟩, rfl, rfl⟩

/-- Telegrams wait for both transmitters. -/
def waiting (own : List Telegram) (n : Nat) : State :=
  numbered.setTrunk { numbered.trunk with queueA := [upward], queueB := [stray, stray], own := own, arbiter := n }

theorem witness_PortEventsMoveOnlyTheirPort :
    ((waiting [] 0).pins.rstN = true ∧ ((waiting [] 0).trunk.port .B).link = .up ∧
      (waiting [] 0).trunk.headPort ≠ some .B ∧ ((waiting [] 0).trunk.port .B).sending = none ∧
      (waiting [] 0).trunk.queue .B = stray :: [stray]) ∧
    (State.reset.trunk.port .A).link ≠ .up ∧ (waiting [] 0).trunk.headPort = some .A ∧
    numbered.trunk.queue .B = [] ∧
    ({ upPort with sending := some (stray, .transit) } : PortState).sending ≠ none := by decide

/-- A node whose port A sends. -/
def sending : State := numbered.setTrunk { numbered.trunk with portA := { upPort with sending := some (stray, .own) } }

theorem witness_PortEventsMoveOnlyTheirPort_lines :
    (State.reset.trunk.port .A).link ≠ .up ∧
    ((numbered.trunk.port .A).link = .up ∧ (numbered.trunk.port .A).sending = none) ∧
    ((sending.trunk.port .A).link = .up ∧ (sending.trunk.port .A).sending = some (stray, .own)) ∧
    ((∃ t, step (numbered.setPending [.resetAsserted]) = .next t) ∧
      ∀ x y rest, (numbered.setPending [.resetAsserted]).pending ≠ .powerOnReset x y :: rest) :=
  ⟨by decide, by decide, by decide, ⟨_, rfl⟩, fun _ _ _ h => nomatch h⟩

theorem witness_ArbiterSharesTheHeadTransmitter :
    (numbered.pins.rstN = true ∧ numbered.trunk.headPort = some .A ∧ (numbered.trunk.port .A).link = .up ∧
      (numbered.trunk.port .A).sending = none ∧ numbered.trunk.own = [] ∧ numbered.trunk.queue .A = []) ∧
    ((waiting [] 0).trunk.own = [] ∧ (waiting [] 0).trunk.queue .A = upward :: []) ∧
    ((numbered.setTrunk { numbered.trunk with own := [stray] }).trunk.own = stray :: [] ∧
      (numbered.setTrunk { numbered.trunk with own := [stray] }).trunk.queue .A = []) ∧
    ((waiting [stray] 3).trunk.own = stray :: [] ∧ (waiting [stray] 3).trunk.queue .A = upward :: [] ∧
      (waiting [stray] 3).trunk.arbiter < 4) ∧
    ((waiting [stray] 4).trunk.own = stray :: [] ∧ (waiting [stray] 4).trunk.queue .A = upward :: [] ∧
      (waiting [stray] 4).trunk.arbiter = 4) ∧
    (linked2.pins.rstN = true ∧ linked2.trunk.headPort = none) ∧
    (({ State.reset with trunk := { Trunk.initial with headPort := some .A } } : State).trunk.headPort = some .A ∧
      (({ State.reset with trunk := { Trunk.initial with headPort := some .A } } : State).trunk.port .A).link ≠ .up) ∧
    (sending.pins.rstN = true ∧ sending.trunk.headPort = some .A ∧ (sending.trunk.port .A).sending ≠ none) := by decide

/-- Queues with a number of telegrams. -/
def filled (n k : Nat) : Trunk := { numbered.trunk with queueA := List.replicate n upward, own := List.replicate k stray }

theorem witness_QueuesTakeOrDrop :
    (((filled 3 7).port .A).link = .up ∧ ((filled 3 7).queue .A).length < 4 ∧ (filled 3 7).headPort = some .A ∧
      (filled 3 7).own.length < 8) ∧
    (4 ≤ ((filled 4 8).queue .A).length ∧ 8 ≤ (filled 4 8).own.length) ∧ (Trunk.initial.port .A).link ≠ .up ∧
    Trunk.initial.headPort = none ∧
    (({ Trunk.initial with headPort := some .A } : Trunk).headPort = some .A ∧
      (({ Trunk.initial with headPort := some .A } : Trunk).port .A).link ≠ .up) := by decide

theorem witness_PassingTelegramsAreRouted :
    (numbered.pins.rstN = true ∧ (numbered.trunk.port .A).link = .up ∧ (numbered.trunk.port .B).link = .up ∧
      stray.lengthOk = true ∧ upward.lengthOk = true) ∧
    linked2.trunk.PassesOn .A stray ∧ numbered.trunk.PassesOn .A { stray with dest := 0 } ∧
    numbered.trunk.PassesOn .A stray ∧ numbered.trunk.PassesOn .B upward ∧
    numbered.trunk.DropsWrongSide .A upward ∧ numbered.trunk.DropsWrongSide .B stray ∧
    { stray with payload := [1] }.lengthOk = false ∧ (State.reset.trunk.port .A).link ≠ .up := by
  refine ⟨by decide, .inl ⟨rfl, by decide⟩, .inr (.inl ⟨rfl, rfl, by decide⟩),
    .inr (.inr (.inl ⟨rfl, by decide, by decide, by decide⟩)), .inr (.inr (.inr ⟨rfl, rfl⟩)),
    .inl ⟨rfl, rfl, by decide⟩, .inr ⟨rfl, by decide, by decide⟩, by decide, by decide⟩

theorem witness_UnknownKindIsAnswered :
    (numbered.Live .A ∧ numbered.trunk.headPort = some .A ∧
      numbered.trunk.address = some ({ stray with kind := 15, dest := 1 } : Telegram).dest.toNat ∧
      ({ stray with kind := 15, dest := 1 } : Telegram).lengthOk = true ∧ ¬(16 ≤ (15 : Byte).toNat ∧ (15 : Byte).toNat ≤ 23)) ∧
    ((({ numbered.trunk with address := some 16 } : Trunk).address = some (16 : Byte).toNat) ∧
      ({ stray with kind := 24, dest := 16 } : Telegram).lengthOk = true ∧
      ¬(16 ≤ (24 : Byte).toNat ∧ (24 : Byte).toNat ≤ 23)) := by
  refine ⟨⟨⟨rfl, rfl⟩, rfl, ?_⟩, ?_⟩ <;> decide

theorem witness_FailedReceptionIsCounted :
    (numbered.trunk.port .A).link = .up ∧ (State.reset.trunk.port .A).link ≠ .up ∧
    Received.failsSymbol { symbolError := true, bytes := [] } = true ∧
    Received.failsLength { symbolError := false, bytes := List.replicate 7 0 } = true ∧
    Received.failsCheck { symbolError := false, bytes := stray.bytes.set 1 6 } = true ∧
    (Received.failsSymbol { symbolError := false, bytes := stray.bytes } = false ∧
      Received.failsLength { symbolError := false, bytes := stray.bytes } = false ∧
      Received.failsCheck { symbolError := false, bytes := stray.bytes } = false) := by decide +kernel

theorem witness_FailedReceptionIsCounted_checks :
    (∃ len rest, stray.bytes = [21, 5, 32, 0, 3, len] ++ rest) ∧
    (({ symbolError := false, bytes := List.replicate 5 0 } : Received).bytes.length < 6) ∧
    (∃ c1 c0, stray.bytes = stray.covered ++ [c1, c0]) := ⟨⟨_, _, rfl⟩, by decide, ⟨_, _, rfl⟩⟩

theorem witness_TelegramBytesReadBack :
    stray.lengthOk = true ∧ { stray with kind := 200, payload := List.replicate 40 9 }.lengthOk = true ∧
    Body.wf (.tableWrite 2 (List.replicate 7 ⟨1, 2, 3⟩)) = true ∧
    Body.wf (.tableThresholds 2 0 (List.replicate 15 3)) = true ∧ Body.wf .bankSwap = true := by decide +kernel

theorem witness_TelegramRowsActAsTheirTelegram :
    arrivalOf (.enable mine) = some (.A, (Body.command 1).telegram mine) ∧
    arrivalOf (.receptionCheckFailure .B { symbolError := false, bytes := stray.bytes }) = some (.B, stray) := by
  decide +kernel

theorem witness_StepsKeepTheTrunkLaw : (∃ t, step numbered = .next t) ∧ numbered.trunk.Law :=
  ⟨⟨_, rfl⟩, numbered_trunkLaw⟩

/-! ### The Route Window -/

/-- The telegram of segment 103, and what it holds. -/
def body103 : SegmentBody := segmentBody 103 1256800 450 1 (12, 1, 60) (14, 2, 70) 0
def held103 : Segment := { g103 with rateLimit := none }

/-- A window with a number of records before a tail. -/
def windowOf (n : Nat) (tail : Segment) : State :=
  numbered.setWindow { RouteWindow.initial with segments := List.replicate n g100 ++ [tail] }

theorem body103_inRange : segmentInRange body103 := by
  refine ⟨by decide, .inr (by decide), by decide, .inr (by decide), fun _ => .inr (by decide), by decide, by decide⟩

theorem witness_SegmentIsAppendedOrRepeated :
    (numbered.Broadcasts cast ∧ segmentRecord body103 = some held103) ∧
    (windowOf 0 held103).window.tail? = some held103 ∧
    (segmentInRange body103 ∧ (∀ tail, (windowOf 62 g102).window.tail? = some tail → tail.follows held103) ∧
      (windowOf 62 g102).window.segments.length < 64) ∧
    (∀ tail, numbered.window.tail? = some tail → tail.follows held103) := by
  refine ⟨⟨cast_broadcast _ rfl rfl rfl, by decide⟩, by decide, ⟨body103_inRange, ?_, by decide⟩, ?_⟩
  · intro tail h; cases h; exact ⟨by decide, by decide, by decide⟩
  · intro tail h; cases h

theorem witness_SegmentFieldsDecideMalformed : ∃ g, segmentRecord body103 = some g := ⟨held103, by decide⟩

theorem witness_SegmentIsRefused :
    (windowOf 0 g102).Broadcasts cast ∧
    (windowOf 0 g102).window.Refuses { body103 with length := 0 } .malformed ∧
    (windowOf 0 g103).window.Refuses body103 .order ∧
    (windowOf 0 g100).window.Refuses body103 .gap ∧
    (windowOf 0 { g102 with entry := right14 }).window.Refuses body103 .mismatch ∧
    (windowOf 63 g102).window.Refuses body103 .full := by
  refine ⟨cast_broadcast _ rfl rfl rfl, ⟨fun h => h.1 rfl, ?_⟩,
    ⟨held103, g103, by decide, body103_inRange, by decide, by decide, by decide⟩,
    ⟨held103, g100, by decide, body103_inRange, by decide, by decide, by decide⟩,
    ⟨held103, _, by decide, body103_inRange, rfl, by decide, by decide, by decide⟩,
    ⟨held103, g102, by decide, body103_inRange, by decide, ⟨by decide, by decide, by decide⟩, by decide⟩⟩
  intro g h; cases h; decide

theorem witness_WithdrawRemovesByTable :
    (ready.Broadcasts cast ∧ linked ready.window.segments) ∧
    (∀ g ∈ ready.window.segments, g.id < (106 : Half).toNat) ∧
    (ready.window.segments ≠ [] ∧ ∀ g ∈ ready.window.segments, (102 : Half).toNat ≤ g.id) ∧
    ((∃ g ∈ ready.window.segments, (103 : Half).toNat ≤ g.id) ∧ ∃ g ∈ ready.window.segments, g.id < (103 : Half).toNat) ∧
    (∃ tail, ready.window.tail? = some tail ∧ tail.id = (105 : Half).toNat) ∧
    ((∃ g ∈ ready.window.segments, g.id = (104 : Half).toNat) ∧
      ∀ tail, ready.window.tail? = some tail → tail.id ≠ (104 : Half).toNat) ∧
    (∀ g ∈ ready.window.segments, g.id ≠ (106 : Half).toNat) ∧
    ((0 : Byte) ≠ 1 ∧ (0 : Byte) ≠ 2 ∧ (0 : Byte) ≠ 3 ∧ (4 : Byte) ≠ 3) := by
  refine ⟨⟨cast_broadcast _ rfl rfl rfl, ready_windowLaw.linked⟩, by decide, by decide, by decide, ⟨g105, by decide⟩,
    ⟨by decide, ?_⟩, by decide, by decide⟩
  intro tail h; cases h; decide

theorem witness_WindowCoversOneInterval : ready.window.Law := ready_windowLaw

theorem witness_SegmentValuesLieBetweenItsProfiles :
    ((g103.start : Int) ≤ 1256800 ∧ (1256800 : Int) < g103.stop) ∧
    ((g103.start : Int) ≤ 1257249 ∧ (1257249 : Int) < g103.stop) ∧
    g102.kind = .constant ∧ g103.kind = .spiral right14 ∧
    ((g102.start : Int) ≤ 1256799 ∧ (1256799 : Int) < (g102.start + g102.length : Nat)) := by decide

theorem witness_SegmentValuesLieBetweenItsProfiles_bands :
    (loadedBank.Law ∧ loadedBank.state = .verified) ∧ 999 < loadedBank.thresholds.getD 0 0 ∧
    (loadedBank.thresholds.getD 0 0 ≤ 1000 ∧ 1399 < loadedBank.thresholds.getD (0 + 1) 0) ∧
    (loadedBank.thresholds.getD 13 0 ≤ 5699 ∧ 5699 < loadedBank.thresholds.getD (13 + 1) 0) ∧
    loadedBank.thresholds.getD 14 0 ≤ 5700 ∧
    [999, 1000, 5699, 5700].map loadedBank.band = [0, 1, 14, 15] ∧
    (loadedBank.rows[14]? = some (List.replicate 16 70) ∧ (List.replicate 16 70)[15]? = some 70) :=
  ⟨⟨loadedBank_law, rfl⟩, by decide, by decide, by decide, by decide, by decide +kernel, by decide +kernel⟩

theorem witness_StepsKeepTheWindowLaw : (∃ t, step ready = .next t) ∧ ready.window.Law := ⟨⟨_, rfl⟩, ready_windowLaw⟩

/-! ### The Schedule Tables -/

theorem witness_TableRequestsAreRefusedInOrder :
    (ready.Delivers mine ∧ swapping.Delivers mine) ∧
    ((∃ ts, Instr.tableWrite mine 3 (List.replicate 7 ⟨1, 2, 3⟩) = .tableWrite mine 3 ts ∧ 1 ≤ ts.length ∧ ts.length ≤ 7) ∧
      ∃ f vs, Instr.tableThresholds mine 0 0 (List.replicate 15 7) = .tableThresholds mine 0 f vs ∧ 1 ≤ vs.length ∧
        vs.length ≤ 15) ∧
    ((0 : Byte) ≠ 1 ∧ (0 : Byte) ≠ 2 ∧ (3 : Byte) ≠ 1 ∧ (3 : Byte) ≠ 2) ∧
    swapping.tables.swapPending = true ∧
    ((1 : Byte) = ready.tables.active.code ∧ ready.tables.swapPending = false) := by
  refine ⟨⟨mine_delivered _ rfl rfl rfl rfl, mine_delivered _ rfl rfl rfl rfl⟩,
    ⟨⟨_, rfl, by decide, by decide⟩, ⟨_, _, rfl, by decide, by decide⟩⟩, by decide, rfl, rfl, rfl⟩

theorem witness_revising :
    revising.Delivers mine ∧ revising.tables.swapPending = false ∧ BankName.B ≠ revising.tables.active ∧
    (revising.tables.bank .B).Law ∧ (revising.tables.bank .B).thresholds.length = 15 :=
  ⟨mine_delivered _ rfl rfl rfl rfl, rfl, by decide, loadingBank_law, by decide⟩

theorem witness_TableWriteWritesTriplets :
    (revising.Delivers mine ∧ revising.tables.swapPending = false ∧ BankName.B ≠ revising.tables.active ∧
      (revising.tables.bank .B).Law) ∧
    (let edge : Triplet := ⟨31, 15, 100⟩
     (edge.cls.toNat ≤ 31 ∧ edge.band.toNat ≤ 15 ∧ edge.value.toNat ≤ 100) ∧
      31 < (32 : Byte).toNat ∧ 15 < (16 : Byte).toNat ∧ 100 < (101 : Byte).toNat ∧
      [edge, ⟨32, 0, 0⟩, edge] = [edge] ++ (⟨32, 0, 0⟩ : Triplet) :: [edge]) ∧
    (1 ≤ ([⟨0, 0, 0⟩] : List Triplet).length ∧ ∀ u ∈ ([⟨0, 0, 0⟩] : List Triplet), u.value.toNat ≤ 100) := by
  refine ⟨⟨witness_revising.1, rfl, by decide, loadingBank_law⟩, by decide, by decide⟩

theorem witness_TableThresholdsWritesValues :
    (revising.Delivers mine ∧ revising.tables.swapPending = false ∧ BankName.B ≠ revising.tables.active ∧
      (revising.tables.bank .B).Law) ∧
    (14 < (15 : Byte).toNat ∧ 15 < (14 : Byte).toNat + [(1 : Half), 2].length) ∧
    ((14 : Byte).toNat ≤ 14 ∧ (14 : Byte).toNat + [(10001 : Half)].length ≤ 15 ∧
      [(10001 : Half)] = [] ++ (10001 : Half) :: [] ∧ 10000 < (10001 : Half).toNat) := by
  refine ⟨⟨witness_revising.1, rfl, by decide, loadingBank_law⟩, by decide, ?_⟩
  decide +kernel

theorem witness_TableThresholdsWritesValues_accepted :
    (0 : Byte).toNat ≤ 14 ∧ (0 : Byte).toNat + (List.replicate 15 (10000 : Half)).length ≤ 15 ∧
    ∀ u ∈ List.replicate 15 (10000 : Half), u.toNat ≤ 10000 :=
  ⟨by decide, by decide, fun u hu => by rw [List.eq_of_mem_replicate hu]; decide⟩

theorem witness_TableTrimAdjustsOneRow :
    (revising.Delivers mine ∧ revising.tables.swapPending = false ∧ BankName.B ≠ revising.tables.active ∧
      (revising.tables.bank .B).Law) ∧
    ((0 : Byte).toNat = 0 ∧ 31 < (32 : Byte).toNat) ∧
    (1 ≤ (31 : Byte).toNat ∧ (31 : Byte).toNat ≤ 31 ∧ (-101 : Byte).toInt < -100 ∧ 100 < (101 : Byte).toInt) ∧
    (1 ≤ (1 : Byte).toNat ∧ -100 ≤ (-100 : Byte).toInt ∧ (100 : Byte).toInt ≤ 100) := by
  refine ⟨⟨witness_revising.1, rfl, by decide, loadingBank_law⟩, by decide +kernel, by decide +kernel, by decide +kernel⟩

theorem witness_BankVerifyExaminesTheBank :
    (revising.Delivers mine ∧ revising.tables.swapPending = false ∧ BankName.B ≠ revising.tables.active ∧
      (revising.tables.bank .B).thresholds.length = 15) ∧
    ¬(∀ i, i < 14 → ({ loadingBank with thresholds := loadingBank.thresholds.set 14 5500 } : Bank).thresholds.getD i 0 <
      ({ loadingBank with thresholds := loadingBank.thresholds.set 14 5500 } : Bank).thresholds.getD (i + 1) 0) ∧
    (∀ i, i < 14 → loadingBank.thresholds.getD i 0 < loadingBank.thresholds.getD (i + 1) 0) ∧
    ¬(∀ e ∈ (loadingBank.write 0 15 1).row 0, e = 0) ∧ (∀ e ∈ loadingBank.row 0, e = 0) ∧
    ¬(∀ r ∈ (loadingBank.write 31 15 101).rows, ∀ e ∈ r, e ≤ 100) ∧ (∀ r ∈ loadingBank.rows, ∀ e ∈ r, e ≤ 100) ∧
    (Bank.initial.Law ∧ Bank.initial.state = .empty) ∧ (loadedBank.Law ∧ loadedBank.state = .verified) := by
  refine ⟨⟨witness_revising.1, rfl, by decide, by decide⟩, ?_, ?_, by decide +kernel, by decide +kernel,
    by decide +kernel, by decide +kernel, ⟨emptyBank_law, rfl⟩, ⟨loadedBank_law, rfl⟩⟩ <;> decide +kernel

theorem witness_BankSwapIsRequested :
    (swapping.Delivers mine ∧ swapping.tables.swapPending = true) ∧
    (ready.tables.swapPending = false ∧ ready.tables.inactiveBank.state = .empty) ∧
    (revising.tables.swapPending = false ∧ revising.tables.inactiveBank.state = .loading) ∧
    ({ swapping.tables with swapPending := false } : Tables).inactiveBank.state = .verified := by
  refine ⟨⟨mine_delivered _ rfl rfl rfl rfl, rfl⟩, by decide, by decide, by decide⟩

theorem witness_StepsKeepTheTablesLaw : (∃ t, step swapping = .next t) ∧ swapping.tables.Law :=
  ⟨⟨_, rfl⟩, loadedBank_law, loadedBank_law, fun _ => rfl⟩

/-! ### Odometry -/

/-- A node whose phase state is known. -/
def rolling (o : Odometry) : State := { ready with odometry := { o with phase := some (false, false) } }

theorem witness_TachTransitionsMoveThePosition :
    (ready.pins.rstN = true ∧ ready.odometry.phase = none) ∧
    (rolling ready.odometry).odometry.phase = some (false, false) ∧
    (((false, false), (true, false)) ∈ [((false, false), (true, false)), ((true, false), (true, true)),
        ((true, true), (false, true)), ((false, true), (false, false))] ∧
      (rolling ready.odometry).params.wheelFactorValid = true ∧
      (1256540 * 65536 + 0 + 4736 : Int) / 65536 ≤ 2147480947) ∧
    ((rolling { ready.odometry with pNode := 2147480947, fraction := 65535 }).odometry.pNode * 65536 + 65535 + 4736) / 65536 >
      2147480947 ∧
    parked.params.wheelFactorValid = false ∧
    ((rolling ready.odometry).odometry.phase = some (false, false) ∧ false ≠ true) ∧
    ((15 : Nat) : Int) + 1 = ready.params.phaseFaultLimit := by decide +kernel

theorem witness_PositionIsAccepted :
    ready.Broadcasts cast ∧
    ((2000000000 : Word).toNat ≤ 2000000000 ∧ (10000 : Half).toNat ≤ 10000) ∧
    (ready.odometry.lastSequence = some 9 ∧ 1 ≤ ((10 : Half) - 9).toNat ∧ ((32776 : Half) - 9).toNat ≤ 32767) ∧
    parked.params.carOffsetValid = false ∧
    (ready.params.carOffsetValid = true ∧
      ((((1258460 : Word).toNat : Int) - ready.params.carOffset - ready.odometry.pNode).natAbs : Int) ≤ ready.params.snapLimit) ∧
    (ready.odometry.aligned = true ∧
      ready.params.snapLimit < ((((1258461 : Word).toNat : Int) - ready.params.carOffset - ready.odometry.pNode).natAbs : Int)) ∧
    ((1 : Byte).getLsbD 0 = true ∧ (0xFE : Byte).getLsbD 0 = false) :=
  ⟨cast_broadcast _ rfl rfl rfl, by decide +kernel⟩

theorem witness_PositionIsIgnored :
    ready.Broadcasts cast ∧
    (2000000000 < (2000000001 : Word).toNat ∧ 10000 < (10001 : Half).toNat ∧ (2 : Byte) ≠ 0 ∧ (2 : Byte) ≠ 1) ∧
    (ready.odometry.lastSequence = some 9 ∧ ((9 : Half) - 9).toNat = 0 ∧ 32768 ≤ ((32777 : Half) - 9).toNat) :=
  ⟨cast_broadcast _ rfl rfl rfl, by decide, by decide⟩

theorem witness_StepsKeepParametersAndOdometryInRange :
    (∃ t, step ready = .next t) ∧ ready.params.Law ∧ ready.odometry.Law :=
  ⟨⟨_, rfl⟩, ready_paramsLaw, ready_odometryLaw⟩

/-! ### Node Control -/

theorem witness_ParamWritesAreCheckedInOrder :
    ready.Delivers mine ∧
    ((0 : Byte).toNat = 0 ∧ 20 < (21 : Byte).toNat ∧ 1 ≤ (1 : Byte).toNat ∧ (20 : Byte).toNat ≤ 20) ∧
    (paramOf 7 = some .period ∧ ParamId.period.standbyOnly = true ∧ (tilting 0 0 0).node.state ≠ .standby) ∧
    (paramOf 6 = some .leadTime ∧ (tilting 0 0 0).node.state ≠ .offline ∧ ParamId.leadTime.standbyOnly = false) ∧
    ((4 : Word).toInt < ParamId.period.range.1 ∧ ParamId.period.range.2 < (51 : Word).toInt) ∧
    (ParamId.period.range.1 ≤ (5 : Word).toInt ∧ (50 : Word).toInt ≤ ParamId.period.range.2) ∧
    (paramOf 5 = some .wheelFactor ∧ ready.params.wheelFactorValid = true ∧ parked.params.wheelFactorValid = false) ∧
    (paramOf 1 = some .carOffset ∧ ready.node.state = .standby) :=
  ⟨mine_delivered _ rfl rfl rfl rfl, by decide +kernel⟩

theorem witness_EnableIsAccepted :
    ready.Delivers mine ∧ ready.node.state = .standby ∧ ready.params.allValid = true ∧
    ready.tables.activeBank.state = .verified ∧ ready.odometry.aligned = true ∧ ready.supervision.stage = .fresh ∧
    ready.window.covered ready.nodeLookPoint = true ∧
    (∀ c, ∃ x, ready.lookPoint c = some x ∧ ready.window.covered x = true) ∧
    (∀ c, (ready.channel c).state = .locked ∧ (ready.channel c).misses = 0 ∧ (ready.channel c).faultCode = 0) := by
  refine ⟨mine_delivered _ rfl rfl rfl rfl, rfl, rfl, rfl, rfl, rfl, by decide +kernel, ?_, ?_⟩
  · intro c; cases c
    · exact ⟨1256795, by decide +kernel⟩
    · exact ⟨1256605, by decide +kernel⟩
  · intro c; cases c <;> decide

theorem witness_EnableIsRefusedInOrder :
    (parked.Delivers mine ∧ parked.node.state = .standby ∧ ¬parked.params.carOffsetValid = true) ∧
    ¬({ ready with tables := Tables.initial } : State).tables.activeBank.state = .verified ∧
    ¬({ ready with odometry := { ready.odometry with aligned := false } } : State).odometry.aligned = true ∧
    ¬({ ready with supervision := { ready.supervision with stage := .stale } } : State).supervision.stage = .fresh ∧
    ¬(ready.setWindow RouteWindow.initial).window.covered (ready.setWindow RouteWindow.initial).nodeLookPoint = true ∧
    ¬((ready.setChannel .CH2 { homeChannel with misses := 1 }).channel .CH2).misses = 0 ∧
    (windingDown.Delivers mine ∧ windingDown.node.state = .winddown) ∧
    ((tilting 0 0 0).Delivers mine ∧ (tilting 0 0 0).node.state = .active) ∧ safe.node.state = .safe := by
  refine ⟨⟨mine_delivered _ rfl rfl rfl rfl, rfl, by decide⟩, by decide, by decide, by decide, by decide +kernel, by decide,
    ⟨mine_delivered _ rfl rfl rfl rfl, rfl⟩, ⟨mine_delivered _ rfl rfl rfl rfl, rfl⟩, rfl⟩

theorem witness_DisableStartsWinddown :
    ((tilting 0 0 0).Delivers mine ∧ (tilting 0 0 0).node.state = .active ∧ ((tilting 0 0 0).channel .CH1).state = .tracking) ∧
    ((inRunout.channel .CH1).state = .returning ∧ (unlocking.channel .CH1).state = .unlocking ∧
      (numbered.channel .CH1).state = .locking ∧ (parked.channel .CH1).state = .locked) ∧
    (ready.Delivers mine ∧ ready.node.state = .standby) ∧ windingDown.node.state = .winddown ∧ safe.node.state = .safe :=
  ⟨⟨mine_delivered _ rfl rfl rfl rfl, rfl, rfl⟩, by decide, ⟨mine_delivered _ rfl rfl rfl rfl, rfl⟩, rfl, rfl⟩

theorem witness_ReleaseAndClearFaults :
    (safe.Delivers mine ∧ safe.node.state = .safe ∧ ∀ c, (safe.channel c).state = .locked) ∧
    (∃ c, ((safe.setChannel .CH2 TiltChannel.initial).channel c).state ≠ .locked) ∧
    ready.node.state = .standby ∧ (tilting 0 0 0).node.state = .active ∧ windingDown.node.state = .winddown ∧
    safe.node.state ≠ .offline :=
  ⟨⟨mine_delivered _ rfl rfl rfl rfl, rfl, fun c => by cases c <;> rfl⟩, ⟨.CH2, by decide⟩, rfl, rfl, rfl, by decide⟩

theorem witness_ResetCommandRestoresTheBlocks :
    (ready.Delivers mine ∧ ready.node.state = .standby ∧ ∀ c, (ready.channel c).state = .locked) ∧
    (safe.node.state = .safe ∧ ∀ c, (safe.channel c).state = .locked) ∧
    (numbered.node.state = .standby ∧ ∃ c, (numbered.channel c).state ≠ .locked) ∧
    (tilting 0 0 0).node.state = .active ∧ windingDown.node.state = .winddown :=
  ⟨⟨mine_delivered _ rfl rfl rfl rfl, rfl, fun c => by cases c <;> rfl⟩, ⟨rfl, fun c => by cases c <;> rfl⟩,
    ⟨rfl, .CH1, by decide⟩, rfl, rfl⟩

theorem witness_EnumerateFollowsItsTable :
    (numbered.Live cast.port ∧ cast.dest = 0 ∧ numbered.node.state = .standby ∧ linked2.node.state = .offline) ∧
    (1 ≤ (1 : Byte).toNat ∧ (16 : Byte).toNat ≤ 16 ∧ 17 ≤ (17 : Byte).toNat ∧ (255 : Byte) ≠ 0 ∧ (254 : Byte) ≠ 255) ∧
    ¬((tilting 0 0 0).node.state = .offline ∨ (tilting 0 0 0).node.state = .standby) :=
  ⟨⟨⟨rfl, rfl⟩, rfl, rfl, rfl⟩, by decide, by decide⟩

theorem witness_StepsKeepTheModeLaw : (∃ t, step (tilting 1256540 62 62) = .next t) ∧ (tilting 1256540 62 62).ModeLaw :=
  ⟨⟨_, rfl⟩, tilting_modeLaw⟩

/-! ### The Supervision Unit -/

/-- A LATCHED register. -/
def snapped : State :=
  numbered.setSupervision { Supervision.initial with snapshot := some (numbered.takenSnapshot 3) }

theorem witness_SnapshotRegisterLatchesOnce :
    (ready.Broadcasts cast ∧ ready.supervision.snapshot = none) ∧
    (∃ held, snapped.supervision.snapshot = some held) ∧
    ∃ s t held, s.supervision.snapshot = some held ∧ step s = .next t ∧ t.supervision.snapshot ≠ some held :=
  ⟨⟨cast_broadcast _ rfl rfl rfl, rfl⟩, ⟨_, rfl⟩, (snapped.setPending [.resetAsserted]),
    snapped.powerOn { snapped.pins with rstN := false }, numbered.takenSnapshot 3, rfl, rfl, fun h => nomatch h⟩

theorem witness_LivenessTimerExpires :
    ready.pins.rstN = true ∧ numbered.supervision.timer = none ∧
    (ready.supervision.timer ≠ none ∧ ready.supervision.stage = .fresh) ∧
    (let v := { Supervision.initial with stage := Stage.stale, timer := some 0 }
     v.timer ≠ none ∧ v.stage = .stale) ∧
    (tilting 0 0 0).node.state = .active ∧ windingDown.node.state = .winddown ∧ ready.node.state = .standby ∧
    safe.node.state = .safe ∧ State.reset.node.state = .offline := by decide

theorem witness_FaultsAreOfferedToTheList :
    ((withFaults 1 safe).node.state = .safe ∧
      ∃ r ∈ (withFaults 1 safe).supervision.faults, r.cls = .drive ∧ r.channel = some .CH2) ∧
    (¬(withFaults 8 ready).node.state = .safe ∧ 8 ≤ (withFaults 8 ready).supervision.faults.length ∧
      (withFaults 8 ready).supervision.overflow = false ∧
      (withFaults 8 ready).supervision.faults.getLast? = some someRecord) ∧
    (withFaults 7 ready).supervision.faults.length < 8 ∧
    (ready.trunk.headPort ≠ none ∧ ∀ x ∈ ready.trunk.own, x.kind ≠ 34) ∧ State.reset.trunk.headPort = none ∧
    (∃ x ∈ (filled 0 0 |> fun t => { t with own := [{ stray with kind := 34 }] } : Trunk).own, x.kind = 34) ∧
    ({ Supervision.initial with overflow := true } : Supervision).overflow = true := by decide

theorem witness_StoppingFaultsTakeTheNodeToSafe :
    (FaultClass.drive ≠ .window ∧ FaultClass.drive ≠ .enumeration) ∧
    (ready.node.state = .standby ∧ (tilting 0 0 0).node.state = .active ∧ windingDown.node.state = .winddown ∧
      safe.node.state = .safe ∧ State.reset.node.state = .offline) ∧
    ((tilting 0 0 0).channel .CH1).state = .tracking ∧ (windingDown.channel .CH2).state = .returning ∧
    (unlocking.channel .CH2).state = .unlocking ∧ (parked.channel .CH2).state = .locked := by decide

theorem witness_StepsKeepTheSupervisionLaw :
    (∃ t, step (withFaults 1 ready) = .next t) ∧ (withFaults 1 ready).supervision.Law := by
  refine ⟨⟨_, rfl⟩, by decide, ?_, by decide, by decide, by decide⟩
  intro i r h
  match i, h with
  | 0, h => cases h; decide
  | n + 1, h => cases h

/-! ### Queries -/

theorem witness_QueriesReportTheStateAsItStands :
    ready.Delivers mine ∧ (31 : Byte).toNat ≤ 31 ∧ (7 : Byte).toNat ≤ 7 ∧ paramOf 1 = some .carOffset ∧
    paramOf 20 = some .phaseFaultLimit ∧ (ready.window.segments[(3 : Byte).toNat]? = some g105 ∧
      ready.window.segments.length ≤ (4 : Byte).toNat) ∧ (ready.tables.bank .A).Law ∧ (ready.tables.bank .B).Law ∧
    (∀ n ∈ [(-2147483648 : Int), 2147483647], ({ ready.odometry with lastFixJump := some n } : Odometry).lastFixJump =
      some n ∧ -2147483648 ≤ n ∧ n ≤ 2147483647) :=
  ⟨mine_delivered _ rfl rfl rfl rfl, by decide, by decide, by decide, by decide, by decide, loadedBank_law, emptyBank_law,
    by intro n h; refine ⟨rfl, ?_⟩; revert n; decide⟩

theorem witness_RequestsOutOfRangeAreRefused :
    ready.Delivers mine ∧ ((0 : Byte).toNat = 0 ∧ 10 < (11 : Byte).toNat) ∧ ((3 : Byte) ≠ 1 ∧ (3 : Byte) ≠ 2) ∧
    31 < (32 : Byte).toNat ∧ 7 < (8 : Byte).toNat ∧ 20 < (21 : Byte).toNat ∧ 5 < (6 : Byte).toNat :=
  ⟨mine_delivered _ rfl rfl rfl rfl, by decide⟩

/-! ### Demands -/

theorem witness_LookPointsLieAheadOfThePositions :
    ({ ready.odometry with direction := .backward } : Odometry).direction = .backward ∧
    (ready.odometry.direction = .forward ∧ 0 ≤ ready.params.leadTime) ∧ (ready.params.Law ∧ ready.odometry.Law) ∧
    (ready.params.bogieOffset .CH1 = some 95 ∧ ready.trunk.headPort = some .A) ∧
    ({ ready.trunk with headPort := some .B } : Trunk).headPort = some .B ∧
    parked.params.bogieOffset .CH1 = none ∧ (∃ x, ready.channelPosition .CH1 = some x) :=
  ⟨rfl, ⟨rfl, by decide⟩, ⟨ready_paramsLaw, ready_odometryLaw⟩, ⟨rfl, rfl⟩, rfl, rfl, _, rfl⟩

theorem witness_ExpiryRunsTheControlPeriod :
    (windingDown.pins.rstN = true ∧ ¬windingDown.node.state = .active ∧ (windingDown.channel .CH1).state = .returning) ∧
    (parked.channel .CH1).state = .locked ∧ (unlocking.channel .CH1).state = .unlocking ∧
    (numbered.channel .CH1).state = .locking ∧ swapping.tables.swapPending = true ∧ ready.odometry.aligned = true ∧
    numbered.odometry.aligned = false := by decide

theorem witness_ExpiryTracksTheRouteOrRunsOut :
    ((tilting 1256550 62 62).pins.rstN = true ∧ (tilting 1256550 62 62).ActivePair .tracking ∧
      (tilting 1256550 62 62).expiryView.window.covered (tilting 1256550 62 62).nodeLookPoint = true ∧
      ∀ c, ∃ x, (tilting 1256550 62 62).lookPoint c = some x ∧
        (tilting 1256550 62 62).expiryView.window.covered x = true) ∧
    (inRunout.ActivePair .returning ∧ inRunout.generator.runout = true) ∧
    ((tilting 1300000 62 62).ActivePair .tracking ∧
      ¬(tilting 1300000 62 62).expiryView.window.covered (tilting 1300000 62 62).nodeLookPoint = true) := by
  refine ⟨⟨rfl, ⟨rfl, rfl, rfl⟩, by decide +kernel, ?_⟩, ⟨⟨rfl, rfl, rfl⟩, rfl⟩, ⟨rfl, rfl, rfl⟩, by decide +kernel⟩
  intro c; cases c
  · exact ⟨1256805, by decide +kernel⟩
  · exact ⟨1256615, by decide +kernel⟩

theorem witness_DemandsMoveByOneStep :
    (tilting 1256540 62 62).ModeLaw ∧ (tilting 1256540 62 62).params.Law ∧
    ∃ t, exec .controlPeriodExpiry (tilting 1256540 62 62) = .next t ∧ (t.channel .CH1).state = .tracking :=
  ⟨tilting_modeLaw, ready_paramsLaw, _, rfl, by decide +kernel⟩

theorem witness_DemandsMoveByOneStep_returning :
    ∃ t, exec .controlPeriodExpiry ((tilting 1256540 62 62).setWindow RouteWindow.initial) = .next t ∧
      (t.channel .CH1).state ≠ .tracking := ⟨_, rfl, by decide +kernel⟩

theorem witness_DemandsMoveByOneStep_other :
    ((tilting 1256540 62 62).setPending [.disable mine]).ModeLaw ∧
    (∃ t, step ((tilting 1256540 62 62).setPending [.disable mine]) = .next t) ∧
    ∀ i rest, ((tilting 1256540 62 62).setPending [.disable mine]).pending = i :: rest →
      i ≠ .controlPeriodExpiry ∧ i ≠ .resetAsserted ∧ ∀ x y, i ≠ .powerOnReset x y :=
  ⟨{ tilting_modeLaw with }, ⟨_, rfl⟩, fun i rest h => by
    cases h; exact ⟨(fun h => nomatch h), (fun h => nomatch h), (fun _ _ h => nomatch h)⟩⟩

theorem witness_StepsKeepTheDemandLaw :
    (∃ t, step (tilting 1256540 62 62) = .next t) ∧ (tilting 1256540 62 62).DemandLaw := ⟨⟨_, rfl⟩, tilting_demandLaw⟩

/-! ### The drive link and the channels -/

/-- Characters with chosen data. -/
def charsOf (data : List Nat) : List LineChar := data.map (fun n => LineChar.ofByte (byteOf n))

/-- The exchange of the witnesses below. -/
def exchange : DemandFrame := frameOf .CH1 0 .engage

theorem witness_ExchangesAreSentAndMissed :
    (ready.pins.rstN = true ∧
      ({ ready.tilt with phase := .sending exchange 0 } : Tilt).phase = .sending exchange 0) ∧
    (∀ f n, ready.tilt.phase ≠ .sending f n) ∧ (∀ f, ready.tilt.phase ≠ .listening f) ∧
    (listening ready exchange).tilt.phase = .listening exchange ∧
    FrameDefect exchange (charsOf [1, 5, 0, 0, 1, 0]) .short ∧
    FrameDefect exchange (charsOf [1, 5, 0, 0, 1, 0, 0, 0]) .long ∧
    FrameDefect exchange (charsOf [1, 5, 0, 0, 1, 0, 0]) .check ∧
    FrameDefect exchange (goodFrame { exchange with drive := .CH2 } 0 .engaged 0) .wrongDrive ∧
    FrameDefect exchange (goodFrame { exchange with sequence := 6 } 0 .engaged 0) .stale ∧
    ((2 : Nat) : Int) + 1 = ready.params.feedbackMissLimit ∧
    (exchange.chars[0]? = some 1 ∧ ∃ b, exchange.chars[4]? = some b) := by
  refine ⟨⟨rfl, rfl⟩, (by intro f n h; cases h), (by intro f h; cases h), rfl, show 6 < 7 by decide, show 7 < 8 by decide,
    ⟨rfl, .inr (.inl (by decide +kernel))⟩, ?_, ?_, by decide, rfl, _, rfl⟩
  · exact ⟨rfl, by unfold failsFrameCheck; decide +kernel, by decide +kernel⟩
  · exact ⟨rfl, by unfold failsFrameCheck; decide +kernel, by decide +kernel, by decide +kernel⟩

theorem witness_FeedbackLocksAndUnlocks :
    (ready.pins.rstN = true ∧ (listening ready exchange).tilt.phase = .listening exchange ∧
      ready.quietCode .CH1 0) ∧
    ((unlocking.channel .CH1).state = .unlocking ∧ ((unlocking.setChannel .CH2
      { unlocking.tilt.ch2 with mark := true }).channel .CH2).mark = true ∧ (unlocking.channel .CH2).mark = false) ∧
    ((numbered.channel .CH1).state = .locking ∧
      ({ TiltChannel.initial with state := .failed } : TiltChannel).state = .failed) ∧
    (windingDown.node.state = .winddown ∧ (parked.channel .CH2).state = .locked) ∧
    (ready.channel .CH1).state = .locked ∧ (LockState.engaged ≠ .released ∧ LockState.travelling ≠ .engaged) :=
  ⟨⟨rfl, rfl, .inl rfl⟩, by decide, by decide, by decide, by decide, by decide⟩

theorem witness_FeedbackIsSupervised :
    ((tilting 0 0 0).quietCode .CH1 0 ∧ ((tilting 0 0 0).channel .CH1).state = .tracking ∧
      (windingDown.channel .CH1).state = .returning ∧ windingDown.node.state = .winddown) ∧
    (¬ready.quietCode .CH1 1 ∧ (ready.channel .CH1).state = .locked) ∧
    (¬unlocking.quietCode .CH1 1 ∧ (unlocking.channel .CH1).state = .unlocking ∧ unlocking.node.state = .active) ∧
    (¬numbered.quietCode .CH1 1 ∧ (numbered.channel .CH1).state = .locking) ∧
    (¬(tilting 0 0 0).quietCode .CH1 1 ∧ ¬windingDown.quietCode .CH1 1) ∧
    ({ TiltChannel.initial with state := .failed } : TiltChannel).state = .failed ∧
    (ready.params.trackBand < ((16 : Nat) : Int) ∧ ((19 : Nat) : Int) + 1 = ready.params.trackPersist) := by
  refine ⟨⟨.inl rfl, by decide, by decide, by decide⟩, ⟨?_, by decide⟩, ⟨?_, by decide, by decide⟩, ⟨?_, by decide⟩,
    ⟨?_, ?_⟩, by decide, by decide⟩ <;> intro h <;> exact absurd h (by unfold State.quietCode; decide)

theorem witness_LockAndUnlockTimersExpire :
    (numbered.pins.rstN = true ∧ (numbered.channel .CH1).state = .locking ∧ (numbered.channel .CH1).lockTimer ≠ none ∧
      (numbered.channel .CH1).feedback = none) ∧
    (∃ r : Feedback, ({ TiltChannel.initial with feedback := some ⟨0, .travelling, 0⟩ } : TiltChannel).feedback = some r ∧
      r.lock = .travelling) ∧
    (parked.channel .CH1).state ≠ .locking ∧ unlocking.node.unlockTimer ≠ none ∧ ready.node.unlockTimer = none ∧
    (unlocking.tilt.ch1.mark = false ∧ unlocking.tilt.ch2.mark = false) ∧
    ((unlocking.setChannel .CH1 { unlocking.tilt.ch1 with mark := true }).tilt.ch1.mark = true ∧
      (unlocking.setChannel .CH1 { unlocking.tilt.ch1 with mark := true }).tilt.ch2.mark = false) :=
  ⟨by decide, ⟨_, rfl, rfl⟩, by decide, by decide, by decide, by decide, by decide⟩

end Sys2Proof.Tests
end

section
/-! SUPPORT. The table requests on the inactive bank: a delivered request is its answer on the tables (R31), what a write
and a trim do to each row, entry and threshold of a bank (R32 to R34), and what the checks of BANK VERIFY say (R36). -/

namespace Sys2Proof.Machine

/-! ## A delivered request is its answer (R31, R160) -/

/-- The state after a delivered table request and its ACK. -/
def State.answered (s : State) (a : Arrival) (kind : Byte) (x : TableAnswer) : State :=
  { s with tables := x.tables, trunk := s.acked a kind x.result x.detail }

theorem answerTable_taken (s : State) (a : Arrival) (kind : Byte) (x : TableAnswer) :
    (s.taken a.port).answerTable kind a.tag x = s.answered a kind x := by
  cases h : a.port <;> simp [State.answered, State.acked, State.replied, h] <;> rfl

/-- A table request that is delivered is answered by what `answer` makes of the tables. -/
theorem event_tableRequest (s : State) (a : Arrival) (body : Body) (answer : Tables → TableAnswer) (h : s.Delivers a)
    (hk : isManagementKind body.kind = true) (hl : (body.telegram a).lengthOk = true) :
    event (fun s => s.arrive a.port (body.telegram a) (fun s => s.answerTable body.kind a.tag (answer s.tables))) s =
      .next (s.answered a body.kind (answer s.tables)) := by
  rw [event_high _ _ h.live.1, arrive_delivered s a body _ h hk hl, answerTable_taken]
  rfl

theorem tripletBytes_length (ts : List Triplet) : (tripletBytes ts).length = 3 * ts.length := by
  induction ts with
  | nil => rfl
  | cons t ts ih => simp only [tripletBytes, List.length_cons, ih]; omega

theorem valueBytes_length (vs : List Half) : (valueBytes vs).length = 2 * vs.length := by
  induction vs with
  | nil => rfl
  | cons v vs ih => simp only [valueBytes, halfBytes, List.length_append, List.length_cons, List.length_nil, ih]; omega

/-- The LENGTH check of a TABLE WRITE passes for 1 to 7 triplets (TABLE 10-II). -/
theorem permittedLength_triplets {n : Nat} (h1 : 1 ≤ n) (h7 : n ≤ 7) : permittedLength 17 (3 * n + 1) = true := by
  simp [permittedLength]; omega

/-- The LENGTH check of a TABLE THRESHOLDS passes for 1 to 15 values (TABLE 10-II). -/
theorem permittedLength_values {n : Nat} (h1 : 1 ≤ n) (h15 : n ≤ 15) : permittedLength 18 (2 * n + 2) = true := by
  simp [permittedLength]; omega

theorem exec_tableWrite_delivered {s : State} {a : Arrival} (h : s.Delivers a) (bank : Byte) {ts : List Triplet}
    (h1 : 1 ≤ ts.length) (h7 : ts.length ≤ 7) :
    exec (.tableWrite a bank ts) s = .next (s.answered a 17 (s.tables.write bank ts)) := by
  refine event_tableRequest s a (.tableWrite bank ts) (fun t => t.write bank ts) h rfl ?_
  show permittedLength 17 ((tripletBytes ts).length + 1) = true
  rw [tripletBytes_length]
  exact permittedLength_triplets h1 h7

theorem exec_tableThresholds_delivered {s : State} {a : Arrival} (h : s.Delivers a) (bank first : Byte) {vs : List Half}
    (h1 : 1 ≤ vs.length) (h15 : vs.length ≤ 15) :
    exec (.tableThresholds a bank first vs) s = .next (s.answered a 18 (s.tables.writeThresholds bank first vs)) := by
  refine event_tableRequest s a (.tableThresholds bank first vs) (fun t => t.writeThresholds bank first vs) h rfl ?_
  show permittedLength 18 ((valueBytes vs).length + 2) = true
  rw [valueBytes_length]
  exact permittedLength_values h1 h15

theorem exec_tableTrim_delivered {s : State} {a : Arrival} (h : s.Delivers a) (bank cls trim : Byte) :
    exec (.tableTrim a bank cls trim) s = .next (s.answered a 19 (s.tables.trim bank cls trim)) :=
  event_tableRequest s a (.tableTrim bank cls trim) (fun t => t.trim bank cls trim) h rfl rfl

theorem exec_bankVerify_delivered {s : State} {a : Arrival} (h : s.Delivers a) (bank : Byte) :
    exec (.bankVerify a bank) s = .next (s.answered a 20 (s.tables.verify bank)) :=
  event_tableRequest s a (.bankVerify bank) (fun t => t.verify bank) h rfl rfl

/-! ## The checks before a request acts -/

theorem bankOf_code (b : BankName) : bankOf b.code = some b := by
  cases b <;> rfl

/-- A request for the inactive bank with no swap pending passes checks 1 to 3 of TABLE 2-II. -/
theorem request_inactive {t : Tables} {b : BankName} (act : BankName → TableAnswer) (hp : t.swapPending = false)
    (hb : b ≠ t.active) : t.request b.code act = act b := by
  simp [Tables.request, bankOf_code, hp, hb]

theorem firstPosition_append_cons {α : Type} {p : α → Bool} {before after : List α} {x : α}
    (hbefore : ∀ y ∈ before, p y = false) (hx : p x = true) :
    firstPosition p (before ++ x :: after) = some (before.length + 1) := by
  have hnone : before.findIdx? p = none := List.findIdx?_eq_none_iff.mpr hbefore
  simp [firstPosition, List.findIdx?_append, hnone, List.findIdx?_cons, hx]

theorem firstPosition_eq_none {α : Type} {p : α → Bool} {xs : List α} (h : ∀ x ∈ xs, p x = false) :
    firstPosition p xs = none := by
  simp [firstPosition, List.findIdx?_eq_none_iff.mpr h]

theorem outOfRange_iff (t : Triplet) :
    Triplet.outOfRange t = true ↔ 31 < t.cls.toNat ∨ 15 < t.band.toNat ∨ 100 < t.value.toNat := by
  simp [Triplet.outOfRange, or_assoc]

theorem outOfRange_eq_false {t : Triplet} (h : t.cls.toNat ≤ 31 ∧ t.band.toNat ≤ 15 ∧ t.value.toNat ≤ 100) :
    Triplet.outOfRange t = false := by
  obtain ⟨hcls, hband, hvalue⟩ := h
  rw [Bool.eq_false_iff, Ne, outOfRange_iff]
  omega

/-! ## Rows and entries of a bank -/

theorem row_length_of_law {b : Bank} (h : b.Law) {cls : Nat} (hc : cls ≤ 31) : (b.row cls).length = 16 := by
  have hlt : cls < b.rows.length := by have := h.rows; omega
  simpa [Bank.row, hlt] using h.columns _ (List.getElem_mem hlt)

/-- A row stored at an index in range is read back there, and every other row is as it was. -/
theorem row_setRow (b : Bank) (cls : Nat) (r : List Nat) (hc : cls < b.rows.length) (c : Nat) :
    ({ b with rows := b.rows.set cls r } : Bank).row c = if cls = c then r else b.row c := by
  by_cases h : cls = c
  · subst h; simp [Bank.row, hc]
  · simp [Bank.row, h]

theorem write_row (b : Bank) (cls band v c : Nat) :
    (b.write cls band v).row c = if cls = c then (b.row c).set band v else b.row c := by
  by_cases hc : cls < b.rows.length
  · rw [Bank.write, row_setRow _ _ _ hc]
    by_cases h : cls = c <;> simp [h]
  · have hrow : b.row cls = [] := by simp [Bank.row, List.getElem?_eq_none (Nat.le_of_not_lt hc)]
    have hsame : b.write cls band v = b := by simp [Bank.write, List.set_eq_of_length_le (Nat.le_of_not_lt hc)]
    by_cases h : cls = c
    · subst h; simp [hsame, hrow]
    · simp [hsame, h]

@[simp] theorem write_row_length (b : Bank) (cls band v c : Nat) :
    ((b.write cls band v).row c).length = (b.row c).length := by
  rw [write_row]; split <;> simp

theorem write_entry_same (b : Bank) {cls band : Nat} (v : Nat) (hband : band < (b.row cls).length) :
    (b.write cls band v).entry cls band = v := by
  simp [Bank.entry, write_row, hband]

theorem write_entry_other (b : Bank) {cls band c d : Nat} (v : Nat) (h : ¬(cls = c ∧ band = d)) :
    (b.write cls band v).entry c d = b.entry c d := by
  simp only [Bank.entry, write_row]
  split
  · next hc =>
    have hd : band ≠ d := fun hd => h ⟨hc, hd⟩
    simp [hd]
  · rfl

/-! ## Triplets written in telegram order (R32) -/

theorem writeAll_cons (b : Bank) (t : Triplet) (ts : List Triplet) :
    b.writeAll (t :: ts) = (b.write t.cls.toNat t.band.toNat t.value.toNat).writeAll ts := rfl

theorem writeAll_append (b : Bank) (ts us : List Triplet) : b.writeAll (ts ++ us) = (b.writeAll ts).writeAll us :=
  List.foldl_append

@[simp] theorem writeAll_thresholds (b : Bank) (ts : List Triplet) : (b.writeAll ts).thresholds = b.thresholds := by
  induction ts generalizing b with
  | nil => rfl
  | cons t ts ih => rw [writeAll_cons, ih]; rfl

@[simp] theorem writeAll_row_length (b : Bank) (ts : List Triplet) (c : Nat) :
    ((b.writeAll ts).row c).length = (b.row c).length := by
  induction ts generalizing b with
  | nil => rfl
  | cons t ts ih => rw [writeAll_cons, ih, write_row_length]

/-- An entry that no triplet names keeps its value. -/
theorem writeAll_entry_of_not_named (b : Bank) (ts : List Triplet) {cls band : Nat}
    (h : ∀ u ∈ ts, ¬(u.cls.toNat = cls ∧ u.band.toNat = band)) : (b.writeAll ts).entry cls band = b.entry cls band := by
  induction ts generalizing b with
  | nil => rfl
  | cons t ts ih =>
    obtain ⟨ht, hts⟩ := List.forall_mem_cons.mp h
    rw [writeAll_cons, ih _ hts, write_entry_other _ _ ht]

/-- The last triplet that names an entry gives its value. -/
theorem writeAll_entry_of_last (b : Bank) (before after : List Triplet) (t : Triplet)
    (hband : t.band.toNat < (b.row t.cls.toNat).length) (hafter : ∀ u ∈ after, ¬(u.cls = t.cls ∧ u.band = t.band)) :
    (b.writeAll (before ++ t :: after)).entry t.cls.toNat t.band.toNat = t.value.toNat := by
  rw [writeAll_append, writeAll_cons, writeAll_entry_of_not_named, write_entry_same _ _ (by simpa using hband)]
  simpa only [BitVec.toNat_inj] using hafter

/-! ## Thresholds written upward (R33) -/

theorem writeFrom_length (xs vs : List Nat) (first : Nat) : (writeFrom xs first vs).length = xs.length := by
  induction vs generalizing xs first with
  | nil => rfl
  | cons v vs ih => rw [writeFrom, ih, List.length_set]

theorem writeFrom_getElem? (xs vs : List Nat) (first : Nat) (h : first + vs.length ≤ xs.length) (i : Nat) :
    (writeFrom xs first vs)[i]? = if first ≤ i ∧ i < first + vs.length then vs[i - first]? else xs[i]? := by
  induction vs generalizing xs first with
  | nil => rw [if_neg (by simp)]; rfl
  | cons v vs ih =>
    rw [List.length_cons] at h
    rw [writeFrom, ih _ _ (by rw [List.length_set]; omega), List.length_cons]
    rcases Nat.lt_trichotomy i first with hlt | rfl | hgt
    · rw [if_neg (by omega), if_neg (by omega), List.getElem?_set_ne (by omega)]
    · rw [if_neg (by omega), if_pos (by omega), List.getElem?_set_self (by omega), Nat.sub_self, List.getElem?_cons_zero]
    · have hsub : i - first = i - (first + 1) + 1 := by omega
      rw [hsub, List.getElem?_cons_succ, List.getElem?_set_ne (by omega)]
      have hrange : (first + 1 ≤ i ∧ i < first + 1 + vs.length) ↔ (first ≤ i ∧ i < first + (vs.length + 1)) := by omega
      simp only [hrange]

/-! ## A row trimmed (R34) -/

theorem trimRow_entry_same {b : Bank} {cls : Nat} (trim : Int) {band : Nat} (hc : cls < b.rows.length)
    (hband : band < (b.row cls).length) : (b.trimRow cls trim).entry cls band = trimEntry trim (b.entry cls band) := by
  simp [Bank.entry, Bank.trimRow, row_setRow _ _ _ hc, hband]

theorem trimRow_entry_other {b : Bank} {cls c : Nat} (trim : Int) (band : Nat) (hc : cls < b.rows.length) (h : c ≠ cls) :
    (b.trimRow cls trim).entry c band = b.entry c band := by
  rw [Bank.entry, Bank.trimRow, row_setRow _ _ _ hc, if_neg h.symm, Bank.entry]

theorem trimEntry_below {trim : Int} {e : Nat} (h : (e : Int) + trim < 0) : trimEntry trim e = 0 := by
  unfold trimEntry; omega

theorem trimEntry_above {trim : Int} {e : Nat} (h : 100 < (e : Int) + trim) : trimEntry trim e = 100 := by
  unfold trimEntry; omega

theorem trimEntry_within {trim : Int} {e : Nat} (h0 : 0 ≤ (e : Int) + trim) (h100 : (e : Int) + trim ≤ 100) :
    (trimEntry trim e : Int) = e + trim := by
  unfold trimEntry; omega

/-! ## The checks of BANK VERIFY (R36) -/

theorem ascending_iff (xs : List Nat) :
    ascending xs = true ↔ ∀ i, i + 1 < xs.length → xs.getD i 0 < xs.getD (i + 1) 0 := by
  induction xs with
  | nil => simp [ascending]
  | cons a xs ih =>
    cases xs with
    | nil => simp [ascending]
    | cons b rest =>
      rw [ascending, Bool.and_eq_true, decide_eq_true_iff, ih]
      constructor
      · rintro ⟨hab, hrest⟩ (_ | i) hi
        · simpa using hab
        · simpa using hrest i (by simpa using hi)
      · intro h
        exact ⟨by simpa using h 0 (by simp), fun i hi => by simpa using h (i + 1) (by simpa using hi)⟩

/-- The first check of R36, on the 15 thresholds of a bank. -/
def Bank.Ascends (b : Bank) : Prop := ∀ i, i < 14 → b.thresholds.getD i 0 < b.thresholds.getD (i + 1) 0

/-- The second check of R36. -/
def Bank.Straight (b : Bank) : Prop := ∀ e ∈ b.row 0, e = 0

/-- The third check of R36. -/
def Bank.Ranged (b : Bank) : Prop := ∀ r ∈ b.rows, ∀ e ∈ r, e ≤ 100

theorem ascends_iff {b : Bank} (h : b.thresholds.length = 15) : b.Ascends ↔ ascending b.thresholds = true := by
  rw [ascending_iff, h]
  exact forall_congr' fun i => imp_congr_left (by omega)

theorem straight_iff (b : Bank) : b.Straight ↔ (b.row 0).all (fun e => decide (e = 0)) = true := by
  simp [Bank.Straight]

theorem ranged_iff (b : Bank) : b.Ranged ↔ b.rows.all (fun r => r.all (fun e => decide (e ≤ 100))) = true := by
  simp [Bank.Ranged]

section
variable {b : Bank} (h15 : b.thresholds.length = 15)
include h15

theorem defect_of_not_ascends (h : ¬b.Ascends) : b.defect = some 1 := by
  rw [ascends_iff h15] at h
  simp [Bank.defect, h]

theorem defect_of_not_straight (ha : b.Ascends) (h : ¬b.Straight) : b.defect = some 2 := by
  rw [ascends_iff h15] at ha
  rw [straight_iff, Bool.not_eq_true] at h
  simp only [Bank.defect, ha, h]; rfl

theorem defect_of_not_ranged (ha : b.Ascends) (hs : b.Straight) (h : ¬b.Ranged) : b.defect = some 3 := by
  rw [ascends_iff h15] at ha
  rw [straight_iff] at hs
  rw [ranged_iff, Bool.not_eq_true] at h
  simp only [Bank.defect, ha, hs, h]; rfl

theorem defect_eq_none_iff : b.defect = none ↔ b.Ascends ∧ b.Straight ∧ b.Ranged := by
  constructor
  · intro h
    have ha : b.Ascends := Classical.byContradiction fun hn => by
      rw [defect_of_not_ascends h15 hn] at h; cases h
    have hs : b.Straight := Classical.byContradiction fun hn => by
      rw [defect_of_not_straight h15 ha hn] at h; cases h
    have hr : b.Ranged := Classical.byContradiction fun hn => by
      rw [defect_of_not_ranged h15 ha hs hn] at h; cases h
    exact ⟨ha, hs, hr⟩
  · rintro ⟨ha, hs, hr⟩
    rw [ascends_iff h15] at ha
    rw [straight_iff] at hs
    rw [ranged_iff] at hr
    simp only [Bank.defect, ha, hs, hr]; rfl
end

/-- An EMPTY bank's thresholds are all 0 and do not ascend. -/
theorem not_ascends_of_empty {b : Bank} (h : b.Law) (he : b.state = .empty) : ¬b.Ascends := by
  intro ha
  have hlt : 1 < b.thresholds.length := by have := h.thresholds; omega
  have hzero : b.thresholds[1] = 0 := (h.emptyZero he).2 _ (List.getElem_mem hlt)
  have hpos := ha 0 (by omega)
  simp [hlt, hzero] at hpos

end Sys2Proof.Machine
end

section
/-! PROOFS. The table requests on the inactive bank (R32, R33, R34, R36). -/

namespace Sys2Proof.Machine

/-! ## The answer of each request for the inactive bank -/

section
variable {t : Tables} {b : BankName} (hp : t.swapPending = false) (hb : b ≠ t.active)
include hp hb

theorem write_refused {before after : List Triplet} {u : Triplet} (hbefore : ∀ v ∈ before, Triplet.outOfRange v = false)
    (hu : Triplet.outOfRange u = true) :
    t.write b.code (before ++ u :: after) = t.refuse resultRange (some (before.length + 1)) := by
  rw [Tables.write, request_inactive _ hp hb, firstPosition_append_cons hbefore hu]

theorem write_accepted {ts : List Triplet} (h : ∀ u ∈ ts, Triplet.outOfRange u = false) :
    t.write b.code ts = t.accept b ((t.bank b).writeAll ts) := by
  rw [Tables.write, request_inactive _ hp hb, firstPosition_eq_none h]

theorem writeThresholds_index_refused {first : Byte} {vs : List Half}
    (h : 14 < first.toNat ∨ 15 < first.toNat + vs.length) :
    t.writeThresholds b.code first vs = t.refuse resultRange (some 0) := by
  rw [Tables.writeThresholds, request_inactive _ hp hb, if_pos h]

theorem writeThresholds_value_refused {first : Byte} {before after : List Half} {v : Half}
    (h : ¬(14 < first.toNat ∨ 15 < first.toNat + (before ++ v :: after).length))
    (hbefore : ∀ u ∈ before, u.toNat ≤ 10000) (hv : 10000 < v.toNat) :
    t.writeThresholds b.code first (before ++ v :: after) = t.refuse resultRange (some (before.length + 1)) := by
  rw [Tables.writeThresholds, request_inactive _ hp hb, if_neg h,
    firstPosition_append_cons (by simpa using hbefore) (by simpa using hv)]

theorem writeThresholds_accepted {first : Byte} {vs : List Half}
    (h : ¬(14 < first.toNat ∨ 15 < first.toNat + vs.length)) (hvs : ∀ u ∈ vs, u.toNat ≤ 10000) :
    t.writeThresholds b.code first vs = t.accept b
      { t.bank b with thresholds := writeFrom (t.bank b).thresholds first.toNat (vs.map (·.toNat)) } := by
  rw [Tables.writeThresholds, request_inactive _ hp hb, if_neg h, firstPosition_eq_none (by simpa using hvs)]

theorem trim_class_refused {cls trim : Byte} (h : cls.toNat = 0 ∨ 31 < cls.toNat) :
    t.trim b.code cls trim = t.refuse resultRange (some 1) := by
  rw [Tables.trim, request_inactive _ hp hb, if_pos h]

theorem trim_value_refused {cls trim : Byte} (hc : ¬(cls.toNat = 0 ∨ 31 < cls.toNat))
    (h : trim.toInt < -100 ∨ 100 < trim.toInt) : t.trim b.code cls trim = t.refuse resultRange (some 2) := by
  rw [Tables.trim, request_inactive _ hp hb, if_neg hc, if_pos h]

theorem trim_accepted {cls trim : Byte} (hc : ¬(cls.toNat = 0 ∨ 31 < cls.toNat))
    (h : ¬(trim.toInt < -100 ∨ 100 < trim.toInt)) :
    t.trim b.code cls trim = t.accept b ((t.bank b).trimRow cls.toNat trim.toInt) := by
  rw [Tables.trim, request_inactive _ hp hb, if_neg hc, if_neg h]

theorem verify_refused {d : Nat} (h : (t.bank b).defect = some d) :
    t.verify b.code = t.refuse resultBadBank (some d) := by
  rw [Tables.verify, request_inactive _ hp hb, h]

theorem verify_passed (h : (t.bank b).defect = none) :
    t.verify b.code =
      { result := resultOk, detail := none, tables := t.setBank b { t.bank b with state := .verified } } := by
  rw [Tables.verify, request_inactive _ hp hb, h]
end

/-! ## The statements -/

/-- Settles O26: the last triplet that names an entry gives its value, since those after it leave it. -/
theorem tableWriteWritesTriplets : Obligations.TableWriteWritesTriplets := by
  intro a b ts s hd h1 h7 hp hb hlaw
  rw [exec_tableWrite_delivered hd b.code h1 h7]
  refine ⟨?refused, fun hts => ⟨{ (s.tables.bank b).writeAll ts with state := .loading }, ?accepted, rfl,
    writeAll_thresholds _ _, ?written, fun _ _ => writeAll_entry_of_not_named _ _⟩⟩
  case refused =>
    rintro before t after rfl hbefore ht
    rw [write_refused hp hb (fun u hu => outOfRange_eq_false (hbefore u hu)) ((outOfRange_iff t).mpr ht)]
    rfl
  case accepted =>
    rw [write_accepted hp hb (fun u hu => outOfRange_eq_false (hts u hu))]
    rfl
  case written =>
    rintro before t after rfl hafter
    obtain ⟨hcls, hband, -⟩ := hts t (by simp)
    exact writeAll_entry_of_last _ _ _ _ (by rw [row_length_of_law hlaw hcls]; omega) hafter

/-- Settles O27, by the thresholds that `writeFrom` leaves. -/
theorem tableThresholdsWritesValues : Obligations.TableThresholdsWritesValues := by
  intro a b first vs s hd h1 h15 hp hb hlaw
  rw [exec_tableThresholds_delivered hd b.code first h1 h15]
  refine ⟨fun h => ?indices, ?value, fun hf hl hvs => ?accepted⟩
  case indices => rw [writeThresholds_index_refused hp hb h]; rfl
  case value =>
    rintro hf hl before v after rfl hbefore hv
    rw [writeThresholds_value_refused hp hb (by omega) hbefore hv]
    rfl
  case accepted =>
    have hfits : first.toNat + (vs.map (·.toNat)).length ≤ (s.tables.bank b).thresholds.length := by
      rw [hlaw.thresholds, List.length_map]; exact hl
    refine ⟨{ s.tables.bank b with
      thresholds := writeFrom (s.tables.bank b).thresholds first.toNat (vs.map (·.toNat)), state := .loading },
      ?_, rfl, rfl, (writeFrom_length _ _ _).trans hlaw.thresholds, fun i _ => ?_⟩
    · rw [writeThresholds_accepted hp hb (by omega) hvs]; rfl
    · simpa using writeFrom_getElem? _ _ _ hfits i

/-- Settles O28, entry by entry: a trimmed entry saturates, and every other row is as it was. -/
theorem tableTrimAdjustsOneRow : Obligations.TableTrimAdjustsOneRow := by
  intro a b cls trim s hd hp hb hlaw
  rw [exec_tableTrim_delivered hd]
  refine ⟨fun h => ?badClass, fun h1 h31 h => ?badTrim, fun h1 h31 hlow hhigh => ?accepted⟩
  case badClass => rw [trim_class_refused hp hb h]; rfl
  case badTrim => rw [trim_value_refused hp hb (by omega) h]; rfl
  case accepted =>
    have hrow : cls.toNat < (s.tables.bank b).rows.length := by rw [hlaw.rows]; omega
    refine ⟨{ (s.tables.bank b).trimRow cls.toNat trim.toInt with state := .loading }, ?_, rfl, rfl,
      fun band hband => ?_, fun c band hc => trimRow_entry_other _ _ hrow hc⟩
    · rw [trim_accepted hp hb (by omega) (by omega)]; rfl
    · have hentry := trimRow_entry_same trim.toInt hrow (by rw [row_length_of_law hlaw h31]; exact hband)
      exact ⟨_, rfl, fun h => hentry.trans (trimEntry_below h), fun h => hentry.trans (trimEntry_above h),
        fun h0 h100 => (congrArg _ hentry).trans (trimEntry_within h0 h100)⟩

/-- Settles O29: the detail is that of the first of the three checks that the bank fails. -/
theorem bankVerifyExaminesTheBank : Obligations.BankVerifyExaminesTheBank := by
  intro a b s hd hp hb h15
  rw [exec_bankVerify_delivered hd]
  refine ⟨fun h => ?_, fun ha h => ?_, fun ha hs h => ?_, fun ha hs hr => ?_, not_ascends_of_empty,
    fun hlaw hv => (defect_eq_none_iff h15).mp (hlaw.verified hv)⟩
  · rw [verify_refused hp hb (defect_of_not_ascends h15 h)]; rfl
  · rw [verify_refused hp hb (defect_of_not_straight h15 ha h)]; rfl
  · rw [verify_refused hp hb (defect_of_not_ranged h15 ha hs h)]; rfl
  · rw [verify_passed hp hb ((defect_eq_none_iff h15).mpr ⟨ha, hs, hr⟩)]; rfl

end Sys2Proof.Machine
end

section
/-! PROOFS. ENABLE refused: the preconditions of TABLE 6-V in their order, and the answers in the states other than
STANDBY (R114, R116). -/

namespace Sys2Proof.Machine

/-! ## The preconditions of TABLE 6-V -/

/-- PARAMS: the four valid flags are set. -/
def State.ParamsMet (s : State) : Prop :=
  s.params.carOffsetValid = true ∧ s.params.bogieOffset1Valid = true ∧ s.params.bogieOffset2Valid = true ∧
    s.params.wheelFactorValid = true

/-- BANK: the active bank is VERIFIED. -/
def State.BankMet (s : State) : Prop := s.tables.activeBank.state = .verified

/-- POSITION: the node is aligned and its supervision FRESH. -/
def State.PositionMet (s : State) : Prop := s.odometry.aligned = true ∧ s.supervision.stage = .fresh

/-- ROUTE: the three look points are covered. -/
def State.RouteMet (s : State) : Prop :=
  s.window.covered s.nodeLookPoint = true ∧ ∀ c, ∃ x, s.lookPoint c = some x ∧ s.window.covered x = true

/-- DRIVES: both channels are LOCKED, with no miss and fault code 0. -/
def State.DrivesMet (s : State) : Prop :=
  ∀ c, (s.channel c).state = .locked ∧ (s.channel c).misses = 0 ∧ (s.channel c).faultCode = 0

theorem forall_channel {p : Channel → Prop} : (∀ c, p c) ↔ p .CH1 ∧ p .CH2 :=
  ⟨fun h => ⟨h .CH1, h .CH2⟩, fun ⟨h1, h2⟩ c => match c with
    | .CH1 => h1
    | .CH2 => h2⟩

theorem paramsMet_iff (s : State) : s.ParamsMet ↔ s.params.allValid = true := by
  simp [State.ParamsMet, Params.allValid, and_assoc]

theorem positionMet_iff (s : State) :
    s.PositionMet ↔ (s.odometry.aligned && decide (s.supervision.stage = .fresh)) = true := by
  simp [State.PositionMet]

theorem routeMet_iff (s : State) : s.RouteMet ↔ s.routeCovered = true := by
  simp [State.RouteMet, State.routeCovered, forall_channel, Option.any_eq_true, and_assoc]

theorem drivesMet_iff (s : State) : s.DrivesMet ↔ (s.tilt.ch1.ready && s.tilt.ch2.ready) = true := by
  simp [State.DrivesMet, TiltChannel.ready, forall_channel, and_assoc]

/-! ## The first precondition that fails -/

open Classical in
/-- The obstacle is the detail of the first precondition of TABLE 6-V that is not met. -/
theorem enableObstacle_eq (s : State) :
    s.enableObstacle =
      if ¬s.ParamsMet then some 1 else if ¬s.BankMet then some 2 else if ¬s.PositionMet then some 3
      else if ¬s.RouteMet then some 4 else if ¬s.DrivesMet then some 5 else none := by
  simp only [State.enableObstacle, paramsMet_iff, positionMet_iff, routeMet_iff, drivesMet_iff, State.BankMet,
    Bool.not_eq_true', Bool.not_eq_true, ne_eq]

section
variable {s : State}

theorem enableObstacle_params (h : ¬s.ParamsMet) : s.enableObstacle = some 1 := by
  simp [enableObstacle_eq, h]

theorem enableObstacle_bank (hp : s.ParamsMet) (h : ¬s.BankMet) : s.enableObstacle = some 2 := by
  simp [enableObstacle_eq, hp, h]

theorem enableObstacle_position (hp : s.ParamsMet) (hb : s.BankMet) (h : ¬s.PositionMet) :
    s.enableObstacle = some 3 := by
  simp [enableObstacle_eq, hp, hb, h]

theorem enableObstacle_route (hp : s.ParamsMet) (hb : s.BankMet) (ho : s.PositionMet) (h : ¬s.RouteMet) :
    s.enableObstacle = some 4 := by
  simp [enableObstacle_eq, hp, hb, ho, h]

theorem enableObstacle_drives (hp : s.ParamsMet) (hb : s.BankMet) (ho : s.PositionMet) (hr : s.RouteMet)
    (h : ¬s.DrivesMet) : s.enableObstacle = some 5 := by
  simp [enableObstacle_eq, hp, hb, ho, hr, h]

/-! ## What a delivered ENABLE answers -/

/-- The end of the telegram's reception touches no precondition: the look points need only the head port of the trunk. -/
@[simp] theorem enableObstacle_taken (s : State) (p : Port) : (s.taken p).enableObstacle = s.enableObstacle := by
  cases p <;> rfl

@[simp] theorem taken_node (s : State) (p : Port) : (s.taken p).node = s.node := rfl

/-- An ACK that answers a COMMAND changes the Trunk Unit only (R160). -/
theorem ackCommand_taken (s : State) (a : Arrival) (result : Byte) (detail : Option Nat) :
    (s.taken a.port).ackCommand a.tag result detail = { s with trunk := s.acked a 22 result detail } := by
  cases h : a.port <;> simp only [State.acked, State.replied, h] <;> rfl

variable {a : Arrival} (hd : s.Delivers a)
include hd

theorem exec_enable_delivered : exec (.enable a) s = .next ((s.taken a.port).takeEnable a.tag) := by
  show event (fun s => s.arrive a.port ((Body.command 1).telegram a) (State.takeEnable a.tag)) s = _
  rw [event_high _ _ hd.live.1, arrive_delivered s a (.command 1) _ hd rfl rfl]

theorem exec_enable_notReady {d : Nat} (hs : s.node.state = .standby) (h : s.enableObstacle = some d) :
    exec (.enable a) s = .next { s with trunk := s.acked a 22 7 (some d) } := by
  rw [exec_enable_delivered hd, State.takeEnable, taken_node, hs, enableObstacle_taken, h]
  exact congrArg _ (ackCommand_taken s a resultNotReady (some d))

theorem exec_enable_busy (hs : s.node.state = .winddown) :
    exec (.enable a) s = .next { s with trunk := s.acked a 22 3 none } := by
  rw [exec_enable_delivered hd, State.takeEnable, taken_node, hs]
  exact congrArg _ (ackCommand_taken s a resultBusy none)

theorem exec_enable_badState (hs : s.node.state = .active ∨ s.node.state = .safe) :
    exec (.enable a) s = .next { s with trunk := s.acked a 22 2 none } := by
  rw [exec_enable_delivered hd, State.takeEnable, taken_node]
  rcases hs with hs | hs <;> rw [hs] <;> exact congrArg _ (ackCommand_taken s a resultBadState none)
end

/-! ## The statement -/

/-- Settles O38: in STANDBY the detail is that of the first precondition that fails; the other states answer at once. -/
theorem enableIsRefusedInOrder : Obligations.EnableIsRefusedInOrder := by
  intro a s hd
  refine ⟨fun hs => ⟨fun h => ?params, fun hp h => ?bank, fun hp hb h => ?position, fun hp hb ho h => ?route,
    fun hp hb ho hr h => ?drives⟩, exec_enable_busy hd, exec_enable_badState hd⟩
  case params => exact exec_enable_notReady hd hs (enableObstacle_params h)
  case bank => exact exec_enable_notReady hd hs (enableObstacle_bank hp h)
  case position => exact exec_enable_notReady hd hs (enableObstacle_position hp hb h)
  case route => exact exec_enable_notReady hd hs (enableObstacle_route hp hb ho h)
  case drives => exact exec_enable_notReady hd hs (enableObstacle_drives hp hb ho hr h)

end Sys2Proof.Machine
end

section
/-! PROOFS. The snapshot register (R141 to R143): what latches it, and that nothing but a destructive query and a reset
changes it while it is LATCHED. -/

namespace Sys2Proof.Machine

/-! ## What keeps the register -/

/-- The offer of a fault touches the fault list only (R136). -/
@[simp] theorem State.offerFault_snapshot (s : State) (cls : FaultClass) (ch : Option Channel) (d : Nat) :
    (s.offerFault cls ch d).snapshot = s.supervision.snapshot := by
  unfold State.offerFault
  split <;> rfl

@[simp] theorem State.raise_snapshot (s : State) (cls : FaultClass) (ch : Option Channel) (d : Nat) :
    (s.raise cls ch d).supervision.snapshot = s.supervision.snapshot := by
  unfold State.raise
  dsimp only
  split <;> split <;> simp

@[simp] theorem State.sampleTach_snapshot (s : State) (pair : Bool × Bool) :
    (s.sampleTach pair).supervision.snapshot = s.supervision.snapshot := by
  unfold State.sampleTach State.phaseFault
  (repeat' split) <;> simp

@[simp] theorem State.expireLiveness_snapshot (s : State) :
    s.expireLiveness.supervision.snapshot = s.supervision.snapshot := by
  unfold State.expireLiveness State.becomeStale State.becomeLost
  (repeat' split) <;> simp

@[simp] theorem State.updatePosition_snapshot (s : State) (q : Int) (fix : Bool) :
    (s.updatePosition q fix).supervision.snapshot = s.supervision.snapshot := by
  unfold State.updatePosition State.discrepancy
  dsimp only
  (repeat' split) <;> simp

/-- A POSITION restarts the liveness timer and may raise a fault, and does nothing else to the Supervision Unit. -/
@[simp] theorem State.takePosition_snapshot (s : State) (b : PositionBody) :
    (s.takePosition b).supervision.snapshot = s.supervision.snapshot := by
  unfold State.takePosition State.applyPosition State.acceptPosition State.restartLiveness
  dsimp only
  (repeat' split) <;> simp

@[simp] theorem State.takeSegment_snapshot (s : State) (b : SegmentBody) :
    (s.takeSegment b).supervision.snapshot = s.supervision.snapshot := by
  unfold State.takeSegment State.refuseSegment
  dsimp only
  (repeat' split) <;> simp

@[simp] theorem State.takeEnumerate_snapshot (s : State) (p : Port) (n : Byte) :
    (s.takeEnumerate p n).supervision.snapshot = s.supervision.snapshot := by
  unfold State.takeEnumerate State.beyondSixteen
  (repeat' split) <;> simp

@[simp] theorem State.takeClearFaults_snapshot (s : State) (tag : Half) :
    (s.takeClearFaults tag).supervision.snapshot = s.supervision.snapshot := by
  unfold State.takeClearFaults State.clearFaults
  split <;> simp

/-- Of the commands only RESET, code 5, touches the register. -/
theorem State.takeCommand_snapshot (s : State) (tag : Half) {code : Byte} (h : code ≠ 5) :
    (s.takeCommand tag code).supervision.snapshot = s.supervision.snapshot := by
  unfold State.takeCommand
  split
  case h_5 h5 => exact absurd (BitVec.eq_of_toNat_eq h5) h
  all_goals simp

/-- Of the query items only SNAPSHOT, code 7, touches the register. -/
theorem State.takeQuery_snapshot (s : State) (tag : Half) {item : Byte} (u v : Byte) (h : item ≠ 7) :
    (s.takeQuery tag item u v).supervision.snapshot = s.supervision.snapshot := by
  unfold State.takeQuery
  split
  case h_7 h7 => exact absurd (BitVec.eq_of_toNat_eq h7) h
  all_goals simp

/-- A miss counts on the channel and may raise a fault. -/
@[simp] theorem State.missExchange_snapshot (s : State) (c : Channel) (d : ExchangeDefect) :
    (s.missExchange c d).supervision.snapshot = s.supervision.snapshot := by
  unfold State.missExchange
  dsimp only
  split <;> simp

@[simp] theorem State.testDriveFault_snapshot (s : State) (c : Channel) (old new : Nat) :
    (s.testDriveFault c old new).supervision.snapshot = s.supervision.snapshot := by
  unfold State.testDriveFault
  split <;> simp

@[simp] theorem State.superviseTracking_snapshot (s : State) (c : Channel) (m : Int) :
    (s.superviseTracking c m).supervision.snapshot = s.supervision.snapshot := by
  unfold State.superviseTracking
  dsimp only
  (repeat' split) <;> simp

@[simp] theorem State.applyLockState_snapshot (s : State) (c : Channel) (l : LockState) (d m : Int) :
    (s.applyLockState c l d m).supervision.snapshot = s.supervision.snapshot := by
  unfold State.applyLockState State.applyLocked
  (repeat' split) <;> simp

@[simp] theorem State.goodFeedback_snapshot (s : State) (f : DemandFrame) (a : Int) (l : LockState) (k : Nat) :
    (s.goodFeedback f a l k).supervision.snapshot = s.supervision.snapshot := by
  simp [State.goodFeedback]

@[simp] theorem State.lockTimeout_snapshot (s : State) (c : Channel) :
    (s.lockTimeout c).supervision.snapshot = s.supervision.snapshot := by
  simp [State.lockTimeout]

/-- Time and the choice of an expiry leave the register alone (log entry 2). -/
@[simp] theorem State.tick_snapshot (s : State) : s.tick.supervision.snapshot = s.supervision.snapshot := by
  unfold State.tick
  (repeat' split) <;> rfl

/-! ## SNAPSHOT -/

theorem takeSnapshot_empty {s : State} (tag : Half) (h : s.supervision.snapshot = none) :
    s.takeSnapshot tag = s.setSupervision { s.supervision with snapshot := some (s.takenSnapshot tag) } := by
  simp [State.takeSnapshot, h]

theorem takeSnapshot_latched {s : State} (tag : Half) {held : Snapshot} (h : s.supervision.snapshot = some held) :
    s.takeSnapshot tag =
      s.setSupervision { s.supervision with ignoredSnapshots := bump16 s.supervision.ignoredSnapshots } := by
  simp [State.takeSnapshot, h]

/-- A SNAPSHOT broadcast that the node acts on is taken and forwarded unchanged (TABLE 8-IV). -/
theorem exec_snapshot_broadcast {s : State} {a : Arrival} (h : s.Broadcasts a) :
    exec (.snapshot a) s = .next
      (((s.taken a.port).takeSnapshot a.tag).thenForwards a.port (Body.snapshot.telegram a)) := by
  show event (fun s => s.arrive a.port (Body.snapshot.telegram a) (State.takeSnapshot a.tag)) s = _
  rw [event_high _ _ h.live.1, arrive_broadcast s a .snapshot _ h rfl rfl]
  rfl

theorem exec_snapshot_latches {s : State} {a : Arrival} (h : s.Broadcasts a) (hs : s.supervision.snapshot = none) :
    exec (.snapshot a) s = .next
      { s with
        supervision := { s.supervision with snapshot := some (s.takenSnapshot a.tag) }
        trunk := s.forwarded a .snapshot } := by
  have hs' : (s.taken a.port).supervision.snapshot = none := hs
  rw [exec_snapshot_broadcast h, takeSnapshot_empty a.tag hs']
  rfl

theorem exec_snapshot_ignored {s : State} {a : Arrival} (h : s.Broadcasts a) {held : Snapshot}
    (hs : s.supervision.snapshot = some held) :
    exec (.snapshot a) s = .next
      { s with
        supervision := { s.supervision with ignoredSnapshots := bump16 s.supervision.ignoredSnapshots }
        trunk := s.forwarded a .snapshot } := by
  have hs' : (s.taken a.port).supervision.snapshot = some held := hs
  rw [exec_snapshot_broadcast h, takeSnapshot_latched a.tag hs']
  rfl

/-! ## A telegram row acts as its body -/

/-- What the block that owns a body does with it: `actOn` once the payload is read. -/
def actOnBody (p : Port) (tag : Half) (b : Body) (s : State) : State :=
  match b with
  | .position b => s.takePosition b
  | .segment b => s.takeSegment b
  | .withdraw g id => s.takeWithdraw g id
  | .snapshot => s.takeSnapshot tag
  | .enumerate n => s.takeEnumerate p n
  | .param i v => s.takeParam tag i v
  | .tableWrite b ts => s.takeTableWrite tag b ts
  | .tableThresholds b f vs => s.takeTableThresholds tag b f vs
  | .tableTrim b c d => s.takeTableTrim tag b c d
  | .bankVerify b => s.takeBankVerify tag b
  | .bankSwap => s.takeBankSwap tag
  | .command c => s.takeCommand tag c
  | .query i u v => s.takeQuery tag i u v

theorem actOn_of_body {x : Telegram} {b : Body} (h : x.body = some b) (p : Port) : actOn p x = actOnBody p x.tag b := by
  funext s
  simp only [actOn, h]
  cases b <;> rfl

/-- The row of a body is the arrival of its telegram. -/
theorem event_arrive_body {a : Arrival} {b : Body} {p : Port} {x : Telegram}
    (h : some (a.port, b.telegram a) = some (p, x)) (s : State) :
    event (fun s => s.arrive a.port (b.telegram a) (actOnBody a.port a.tag b)) s =
      event (fun s => s.arrive p x (actOn p x)) s := by
  cases h
  rw [actOn_of_body (body_of_telegram b a)]
  rfl

theorem receive_good {r : Received} {x : Telegram} (hr : r.good = true) (hx : r.telegram = some x) (s : State)
    (p : Port) : s.receive p r = s.arrive p x (actOn p x) := by
  simp [State.receive, hr, hx]

/-- A command that brings a telegram is its arrival, acted on by what the telegram says (log entry 11). -/
theorem exec_of_arrivalOf {c : Instr} {p : Port} {x : Telegram} (h : arrivalOf c = some (p, x)) (s : State) :
    exec c s = event (fun s => s.arrive p x (actOn p x)) s := by
  cases c with
  | receptionCheckFailure q r =>
    simp only [arrivalOf, Option.ite_none_right_eq_some, Option.map_eq_some_iff] at h
    obtain ⟨hgood, y, hy, hpair⟩ := h
    cases hpair
    simp only [exec, execReceptionCheckFailure, receive_good hgood hy]
  | passThroughTelegram q y => cases h; rfl
  | unknownKind q y => cases h; rfl
  | powerOnReset | resetAsserted | signalAppears | portUp | lossOfSignal | symbolErrorLimit | startDelimiterReceived
  | arbiterChoice | transitTransmitStart | transmissionEnd | tachTransition | controlPeriodExpiry | demandSent
  | feedbackFrame | exchangeWindowClose | lockTimeout | unlockTimeout | livenessTimerExpiry => cases h
  | _ => exact event_arrive_body h s

/-! ## What changes a LATCHED register -/

/-- A telegram that may change a LATCHED register: the command RESET, and the destructive SNAPSHOT query. -/
def ChangesLatched (x : Telegram) : Prop :=
  x.body = some (.command 5) ∨ ∃ u v, x.body = some (.query 7 u v)

/-- A block that acts on any other telegram keeps a LATCHED register; SNAPSHOT is then ignored (R142). -/
theorem actOn_keeps_latched {x : Telegram} (hx : ¬ChangesLatched x) (p : Port) {s : State} {held : Snapshot}
    (h : s.supervision.snapshot = some held) : (actOn p x s).supervision.snapshot = some held := by
  rcases hb : x.body with _ | b
  · simpa [actOn, hb] using h
  rw [actOn_of_body hb]
  cases b with
  | snapshot => simpa [actOnBody, takeSnapshot_latched x.tag h] using h
  | command code =>
    have hcode : code ≠ 5 := by rintro rfl; exact hx (.inl hb)
    exact (State.takeCommand_snapshot s x.tag hcode).trans h
  | query item u v =>
    have hitem : item ≠ 7 := by rintro rfl; exact hx (.inr ⟨u, v, hb⟩)
    exact (State.takeQuery_snapshot s x.tag u v hitem).trans h
  | _ => simpa [actOnBody] using h

/-- A taken command keeps the register when its effect does, since with RST_N low it has none (log entry 7). -/
theorem event_keeps_snapshot {f : State → State} {s t : State} (ht : event f s = .next t)
    (hf : (f s).supervision.snapshot = s.supervision.snapshot) :
    t.supervision.snapshot = s.supervision.snapshot := by
  cases hr : s.pins.rstN with
  | true => rw [event_high _ _ hr] at ht; cases ht; exact hf
  | false => rw [event_low _ _ hr] at ht; cases ht; rfl

theorem arrival_keeps_latched {x : Telegram} (hx : ¬ChangesLatched x) {p : Port} {s t : State} {held : Snapshot}
    (ht : event (fun s => s.arrive p x (actOn p x)) s = .next t) (h : s.supervision.snapshot = some held) :
    t.supervision.snapshot = some held := by
  cases hr : s.pins.rstN with
  | true =>
    rw [event_high _ _ hr] at ht
    cases ht
    exact arrive_keeps (P := fun s => s.supervision.snapshot = some held) (fun _ _ _ h => h) p x _
      (fun _ _ _ h => actOn_keeps_latched hx p h) s hr h
  | false => rw [event_low _ _ hr] at ht; cases ht; exact h

theorem receive_bad {r : Received} (h : ¬∃ x, r.good = true ∧ r.telegram = some x) (s : State) (p : Port) :
    s.receive p r = if s.trunk.isUp p then s.rejectReceived p else s := by
  unfold State.receive
  split
  · next x hr hx => exact absurd ⟨x, hr, hx⟩ h
  · rfl

/-- A command that brings no telegram and is no reset of the pin keeps the register. -/
theorem exec_keeps_snapshot_of_no_arrival {c : Instr} {s t : State} (hc : arrivalOf c = none)
    (hpon : ∀ x y, c ≠ .powerOnReset x y) (hlow : c ≠ .resetAsserted) (ht : exec c s = .next t) :
    t.supervision.snapshot = s.supervision.snapshot := by
  cases c with
  | powerOnReset x y => exact absurd rfl (hpon x y)
  | resetAsserted => exact absurd rfl hlow
  | receptionCheckFailure p r =>
    simp only [exec, execReceptionCheckFailure] at ht
    refine event_keeps_snapshot ht ?_
    have hbad : ¬∃ x, r.good = true ∧ r.telegram = some x := by
      rintro ⟨x, hgood, hx⟩
      simp [arrivalOf, hgood, hx] at hc
    rw [receive_bad hbad]
    split <;> simp
  | signalAppears | portUp | lossOfSignal | symbolErrorLimit | startDelimiterReceived | arbiterChoice
  | transitTransmitStart | transmissionEnd =>
    simp only [exec, execSignalAppears, execPortUp, execLossOfSignal, execSymbolErrorLimit, execStartDelimiterReceived,
      execArbiterChoice, execTransitTransmitStart, execTransmissionEnd] at ht
    exact event_keeps_snapshot ht rfl
  | tachTransition | controlPeriodExpiry =>
    simp only [exec, execTachTransition, execControlPeriodExpiry] at ht
    exact event_keeps_snapshot ht (by simp)
  | demandSent | exchangeWindowClose | lockTimeout | unlockTimeout | livenessTimerExpiry =>
    simp only [exec, execDemandSent, execExchangeWindowClose, execLockTimeout, execUnlockTimeout,
      execLivenessTimerExpiry] at ht
    refine event_keeps_snapshot ht ?_
    split <;> simp
  | feedbackFrame chars =>
    simp only [exec, execFeedbackFrame] at ht
    refine event_keeps_snapshot ht ?_
    split
    · split <;> simp
    · rfl
  | _ => cases hc

/-- What can change a LATCHED register: a reset of the pin, or the arrival of a RESET or of a destructive query. -/
theorem exec_changes_latched {c : Instr} {s t : State} {held : Snapshot} (h : s.supervision.snapshot = some held)
    (ht : exec c s = .next t) (hchange : t.supervision.snapshot ≠ some held) :
    (∃ x y, c = .powerOnReset x y) ∨ c = .resetAsserted ∨
      ∃ p x, arrivalOf c = some (p, x) ∧ ChangesLatched x := by
  cases hc : arrivalOf c with
  | none =>
    by_cases hpon : ∃ x y, c = .powerOnReset x y
    · exact .inl hpon
    by_cases hlow : c = .resetAsserted
    · exact .inr (.inl hlow)
    have hkept := exec_keeps_snapshot_of_no_arrival hc (fun x y e => hpon ⟨x, y, e⟩) hlow ht
    exact absurd (hkept.trans h) hchange
  | some arrival =>
    obtain ⟨p, x⟩ := arrival
    rw [exec_of_arrivalOf hc] at ht
    have hx : ChangesLatched x := Classical.byContradiction fun hx => hchange (arrival_keeps_latched hx ht h)
    exact .inr (.inr ⟨p, x, rfl, hx⟩)

/-! ## The statement -/

/-- Settles O44: a LATCHED register survives the tick, and every command that `exec_changes_latched` does not name. -/
theorem snapshotRegisterLatchesOnce : Obligations.SnapshotRegisterLatchesOnce := by
  refine ⟨fun a s hb => ⟨exec_snapshot_latches hb, fun held => exec_snapshot_ignored hb⟩,
    fun s t held h hstep hchange => ?_⟩
  cases hp : s.pending with
  | nil =>
    simp only [step, hp, Host.Outcome.next.injEq] at hstep
    subst hstep
    exact absurd ((State.tick_snapshot s).trans h) hchange
  | cons c rest =>
    simp only [step, hp] at hstep
    exact ⟨c, rest, rfl, exec_changes_latched (s := s.setPending rest) h hstep hchange⟩

end Sys2Proof.Machine
end

section
/-! SUPPORT. What one command does, row by row (`Effect`), and what one step does; the tests, the tick and the telegram
rows are read through these lemmas and not through `exec`. -/

namespace Sys2Proof.Machine

/-! ## What each row does -/

/-- What the rows of the trunk ports do to the Trunk Unit. -/
inductive PortEffect (t : Trunk) : Instr → Trunk → Prop
  | signal (p : Port) : PortEffect t (.signalAppears p) (t.signalAppears p)
  | train (p : Port) (xs : List TrainingSymbol) : PortEffect t (.portUp p xs) (t.train p xs)
  | loss (p : Port) : PortEffect t (.lossOfSignal p) (t.goDown p)
  | errors (p : Port) : PortEffect t (.symbolErrorLimit p) (t.goDown p)
  | delimiter (p : Port) : PortEffect t (.startDelimiterReceived p) (t.startReceiving p)
  | choice : PortEffect t .arbiterChoice t.arbiterChoice
  | transit (p : Port) : PortEffect t (.transitTransmitStart p) (t.transitStart p)
  | ended (p : Port) : PortEffect t (.transmissionEnd p) (t.endTransmission p)

/-- What a command does while RST_N is high. -/
inductive Effect (s : State) : Instr → State → Prop
  | powerOn (x y : Bool) : Effect s (.powerOnReset x y) (s.powerOn { rstN := true, rateSel1 := x, rateSel0 := y })
  | low : Effect s .resetAsserted (s.powerOn { s.pins with rstN := false })
  | port {c : Instr} {u : Trunk} (h : PortEffect s.trunk c u) : Effect s c (s.setTrunk u)
  | arrives {c : Instr} {p : Port} {x : Telegram} (h : arrivalOf c = some (p, x)) :
    Effect s c (s.arrive p x (actOn p x))
  | rejects (p : Port) (r : Received) : Effect s (.receptionCheckFailure p r) (s.rejectReceived p)
  /-- A command whose occasion does not exist (log entry 4). -/
  | idle (c : Instr) : Effect s c s
  | tach (x y : Bool) : Effect s (.tachTransition x y) (s.sampleTach (x, y))
  | expiry : Effect s .controlPeriodExpiry s.expirePeriod
  | sent {f : DemandFrame} {n : Nat} (h : s.tilt.phase = .sending f n) : Effect s .demandSent (s.demandSent f)
  | missed {c : Instr} {f : DemandFrame} (d : ExchangeDefect) (h : s.tilt.phase = .listening f) :
    Effect s c ((s.setTilt (s.tilt.endExchange f)).missExchange f.drive d)
  | fed {f : DemandFrame} (chars : List LineChar) (angle : Int) (lock : LockState) (fault : Nat)
      (h : s.tilt.phase = .listening f) :
    Effect s (.feedbackFrame chars) ((s.setTilt (s.tilt.endExchange f)).goodFeedback f angle lock fault)
  | lockTimeout (c : Channel) (h : (s.channel c).state = .locking) : Effect s (.lockTimeout c) (s.lockTimeout c)
  | unlockTimeout (h : s.node.unlockTimer.isSome = true) :
    Effect s .unlockTimeout ((s.setUnlockTimer none).raise .unlockTimeout none s.markDetail)
  | liveness (h : s.supervision.timer.isSome = true) : Effect s .livenessTimerExpiry s.expireLiveness

/-- What the row of a command does to the state; the two rows of the pin, which no event takes, are left to `exec`. -/
def rowAct (c : Instr) (s : State) : State :=
  match c with
  | .signalAppears p => s.setTrunk (s.trunk.signalAppears p)
  | .portUp p xs => s.setTrunk (s.trunk.train p xs)
  | .lossOfSignal p => s.setTrunk (s.trunk.goDown p)
  | .symbolErrorLimit p => s.setTrunk (s.trunk.goDown p)
  | .startDelimiterReceived p => s.setTrunk (s.trunk.startReceiving p)
  | .arbiterChoice => s.setTrunk s.trunk.arbiterChoice
  | .transitTransmitStart p => s.setTrunk (s.trunk.transitStart p)
  | .transmissionEnd p => s.setTrunk (s.trunk.endTransmission p)
  | .receptionCheckFailure p r => s.receive p r
  | .tachTransition x y => s.sampleTach (x, y)
  | .controlPeriodExpiry => s.expirePeriod
  | .demandSent =>
    match s.tilt.phase with
    | .sending f _ => s.demandSent f
    | _ => s
  | .exchangeWindowClose =>
    match s.tilt.phase with
    | .listening f => (s.setTilt (s.tilt.endExchange f)).missExchange f.drive .noReply
    | _ => s
  | .feedbackFrame chars =>
    match s.tilt.phase with
    | .listening f =>
      match judgeFrame f chars with
      | .error d => (s.setTilt (s.tilt.endExchange f)).missExchange f.drive d
      | .ok (angle, lock, fault) => (s.setTilt (s.tilt.endExchange f)).goodFeedback f angle lock fault
    | _ => s
  | .lockTimeout c => if (s.channel c).state = .locking ∧ (s.channel c).lockTimer.isSome then s.lockTimeout c else s
  | .unlockTimeout =>
    if s.node.unlockTimer.isSome then (s.setUnlockTimer none).raise .unlockTimeout none s.markDetail else s
  | .livenessTimerExpiry => if s.supervision.timer.isSome then s.expireLiveness else s
  | c =>
    match arrivalOf c with
    | some (p, x) => s.arrive p x (actOn p x)
    | none => s

/-- A command that is not one of the pin is the event of its row. -/
theorem exec_eq_event {c : Instr} (hpon : ∀ x y, c ≠ .powerOnReset x y) (hlow : c ≠ .resetAsserted) (s : State) :
    exec c s = event (rowAct c) s := by
  cases c with
  | powerOnReset x y => exact absurd rfl (hpon x y)
  | resetAsserted => exact absurd rfl hlow
  | signalAppears | portUp | lossOfSignal | symbolErrorLimit | startDelimiterReceived | arbiterChoice
  | transitTransmitStart | transmissionEnd | receptionCheckFailure | tachTransition | controlPeriodExpiry | demandSent
  | exchangeWindowClose | feedbackFrame | lockTimeout | unlockTimeout | livenessTimerExpiry => rfl
  | _ => exact exec_of_arrivalOf rfl s

/-- The row of a command that brings no telegram has one of the effects named. -/
theorem rowAct_effect {c : Instr} (hc : arrivalOf c = none) (s : State) : Effect s c (rowAct c s) := by
  cases c with
  | receptionCheckFailure p r =>
    have hbad : ¬∃ x, r.good = true ∧ r.telegram = some x := by
      rintro ⟨x, hgood, hx⟩
      simp [arrivalOf, hgood, hx] at hc
    simp only [rowAct, receive_bad hbad]
    split
    · exact .rejects p r
    · exact .idle _
  | signalAppears p => exact .port (.signal p)
  | portUp p xs => exact .port (.train p xs)
  | lossOfSignal p => exact .port (.loss p)
  | symbolErrorLimit p => exact .port (.errors p)
  | startDelimiterReceived p => exact .port (.delimiter p)
  | arbiterChoice => exact .port .choice
  | transitTransmitStart p => exact .port (.transit p)
  | transmissionEnd p => exact .port (.ended p)
  | tachTransition x y => exact .tach x y
  | controlPeriodExpiry => exact .expiry
  | demandSent =>
    simp only [rowAct]
    split
    · next h => exact .sent h
    · exact .idle _
  | exchangeWindowClose =>
    simp only [rowAct]
    split
    · next h => exact .missed _ h
    · exact .idle _
  | feedbackFrame chars =>
    simp only [rowAct]
    split
    · next h =>
      split
      · exact .missed _ h
      · exact .fed _ _ _ _ h
    · exact .idle _
  | lockTimeout c =>
    simp only [rowAct]
    split
    · next h => exact .lockTimeout c h.1
    · exact .idle _
  | unlockTimeout =>
    simp only [rowAct]
    split
    · next h => exact .unlockTimeout h
    · exact .idle _
  | livenessTimerExpiry =>
    simp only [rowAct]
    split
    · next h => exact .liveness h
    · exact .idle _
  | powerOnReset | resetAsserted => exact .idle _
  | _ => cases hc

theorem effect_of_exec {c : Instr} {s t : State} (hr : s.pins.rstN = true) (h : exec c s = .next t) :
    Effect s c t := by
  cases hc : arrivalOf c with
  | some arrival =>
    rw [exec_of_arrivalOf hc, event_high _ _ hr] at h
    cases h
    exact .arrives hc
  | none =>
    by_cases hpon : ∃ x y, c = .powerOnReset x y
    · obtain ⟨x, y, rfl⟩ := hpon
      cases h
      exact .powerOn x y
    by_cases hlow : c = .resetAsserted
    · subst hlow
      cases h
      exact .low
    rw [exec_eq_event (fun x y e => hpon ⟨x, y, e⟩) hlow, event_high _ _ hr] at h
    cases h
    exact rowAct_effect hc s

/-- While RST_N is low no command but the two of the pin has an effect (R170, log entry 7). -/
theorem exec_low {c : Instr} {s : State} (hr : s.pins.rstN = false) (hpon : ∀ x y, c ≠ .powerOnReset x y)
    (hlow : c ≠ .resetAsserted) : exec c s = .next s := by
  rw [exec_eq_event hpon hlow, event_low _ _ hr]

/-- A command of any row completes. -/
theorem exec_completes (c : Instr) (s : State) : ∃ t, exec c s = .next t := by
  cases c <;> exact ⟨_, rfl⟩

/-! ## What one step does -/

/-- A step is the tick on an empty queue, and else the command in front (log entries 1 and 2). -/
theorem step_cases {s t : State} (h : step s = .next t) :
    (s.pending = [] ∧ t = s.tick) ∨ ∃ c rest, s.pending = c :: rest ∧ exec c (s.setPending rest) = .next t := by
  unfold step at h
  split at h
  · next hp => cases h; exact .inl ⟨hp, rfl⟩
  · next c rest hp => exact .inr ⟨c, rest, hp, h⟩

/-- What the tick and every command keep, whatever the queue, every step keeps. -/
theorem step_keeps {P : State → Prop} (hpending : ∀ s q, P s → P (s.setPending q)) (htick : ∀ s, P s → P s.tick)
    (hexec : ∀ c s t, exec c s = .next t → P s → P t) {s t : State} (h : step s = .next t) (hP : P s) : P t := by
  obtain ⟨-, rfl⟩ | ⟨c, rest, -, hc⟩ := step_cases h
  · exact htick s hP
  · exact hexec c _ t hc (hpending s rest hP)

/-- The tick leaves the state, lets a microsecond pass, or queues one expiry that is due (log entries 2 and 18). -/
theorem tick_cases (s : State) :
    (s.pins.rstN = false ∧ s.tick = s) ∨ (s.pins.rstN = true ∧ s.due = [] ∧ s.tick = s.passTime) ∨
      ∃ c cs, s.pins.rstN = true ∧ s.due = c :: cs ∧
        s.tick = { s with pending := [s.chooseDue c cs], freeCount := s.freeCount + 1 } := by
  unfold State.tick
  split
  · next hr =>
    split
    · next hd => exact .inr (.inl ⟨hr, hd, rfl⟩)
    · next c cs hd => exact .inr (.inr ⟨c, cs, hr, hd, rfl⟩)
  · next hr => exact .inl ⟨by simpa using hr, rfl⟩

/-! ## Delivered telegrams -/

/-- A row that brings a management telegram that is delivered is its block's act on the state that has taken it. -/
theorem exec_delivered {c : Instr} {s : State} {a : Arrival} (h : s.Delivers a) (b : Body)
    (hc : arrivalOf c = some (a.port, b.telegram a)) (hk : isManagementKind b.kind = true)
    (hl : (b.telegram a).lengthOk = true) : exec c s = .next (actOnBody a.port a.tag b (s.taken a.port)) := by
  rw [exec_of_arrivalOf hc, event_high _ _ h.live.1, arrive_delivered s a b _ h hk hl,
    actOn_of_body (body_of_telegram b a)]
  rfl

/-- A row that brings a broadcast that the node acts on is its block's act, and the telegram is forwarded. -/
theorem exec_broadcast {c : Instr} {s : State} {a : Arrival} (h : s.Broadcasts a) (b : Body)
    (hc : arrivalOf c = some (a.port, b.telegram a)) (hk : isBroadcastKind b.kind = true)
    (hl : (b.telegram a).lengthOk = true) :
    exec c s = .next ((actOnBody a.port a.tag b (s.taken a.port)).thenForwards a.port
      (forwardedForm s.node.state (b.telegram a))) := by
  rw [exec_of_arrivalOf hc, event_high _ _ h.live.1, arrive_broadcast s a b _ h hk hl,
    actOn_of_body (body_of_telegram b a)]
  rfl

/-- An ACK formed once the telegram has been taken is the one that `acked` places (R160). -/
theorem ack_of_taken {s u : State} {a : Arrival} (h : u.trunk = s.trunk.endReceiving a.port) (kind result : Byte)
    (detail : Option Nat) :
    u.ack kind a.tag result detail = { u with trunk := s.acked a kind result detail } := by
  unfold State.ack
  rw [h]
  cases hp : a.port <;> simp only [State.acked, State.replied, hp] <;> rfl

/-- A REPORT formed once the telegram has been taken is the one that `reported` places (R160). -/
theorem report_of_taken {s u : State} {a : Arrival} (h : u.trunk = s.trunk.endReceiving a.port) (item result : Byte)
    (detail : Option Nat) (contents : List Byte) :
    u.report item a.tag result detail contents = { u with trunk := s.reported a item result detail contents } := by
  unfold State.report
  rw [h]
  cases hp : a.port <;> simp only [State.reported, State.replied, hp] <;> rfl

end Sys2Proof.Machine
end

section
/-! PROOFS. The step, the tick and the resets of the pin (log entries 1, 2, 6, 7, 18 and 19). -/

namespace Sys2Proof.Machine

/-- Settles O1. -/
theorem stepTakesFrontCommand : Obligations.StepTakesFrontCommand := by
  intro c rest s h
  rw [step, h]
  rfl

/-- Settles O3: `exec_keeps` with the queue and the count as the property kept. -/
theorem everyCommandCompletesAndLeavesTheQueue : Obligations.EveryCommandCompletesAndLeavesTheQueue := by
  intro c s
  obtain ⟨t, ht⟩ := exec_completes c s
  refine ⟨t, ht, exec_keeps (P := fun t => t.pending = s.pending ∧ t.freeCount = s.freeCount)
    (fun _ _ _ h => h) (fun _ _ h => h) (fun u p x _ _ h => ?acts) (fun _ h => by simpa using h)
    (fun _ _ _ _ h => by simpa using h) (fun _ _ _ _ h => by simpa using h) (fun _ _ _ _ _ _ h => by simpa using h)
    (fun _ _ _ h => by simpa using h) (fun _ _ h => by simpa using h) (fun _ _ h => by simpa using h)
    (fun _ _ h => by simpa using h) c s t ht ⟨rfl, rfl⟩⟩
  case acts =>
    rcases hb : x.body with _ | b
    · simpa [actOn, hb] using h
    · rw [actOn_of_body hb]
      cases b <;> simpa [actOnBody] using h

/-- Settles O4: the pin's rows are `State.powerOn`, and every other row is an event, which a low pin does not take. -/
theorem resetPinHoldsTheNode : Obligations.ResetPinHoldsTheNode := by
  intro s
  refine ⟨rfl, fun hr => ⟨fun c => exec_low hr, fun hp => ?_⟩, fun _ _ => rfl, rfl, rfl, rfl⟩
  rw [step, hp]
  simp [State.tick, hr]

/-- Settles O16: both rows are the arrival of the telegram. -/
theorem telegramRowsActAsTheirTelegram : Obligations.TelegramRowsActAsTheirTelegram :=
  fun _ _ _ s h => exec_of_arrivalOf h s

/-! ## The expiries that are due -/

theorem sent_iff (p : LinkPhase) : p.sent = true ↔ ∃ f, p = .sending f 0 := by
  cases p <;> simp [LinkPhase.sent]

theorem listens_iff (p : LinkPhase) : p.listens = true ↔ ∃ f, p = .listening f := by
  cases p <;> simp [LinkPhase.listens]

theorem ranOut_iff (t : Option Nat) : ranOut t = true ↔ t = some 0 := by
  simp [ranOut]

/-- The list `due` as a membership: each expiry with the condition under which it is there. -/
theorem mem_due_iff (s : State) (i : Instr) :
    i ∈ s.due ↔
      (s.generator.timer = 0 ∧ i = .controlPeriodExpiry) ∨
      ((∃ f, s.tilt.phase = .sending f 0) ∧ i = .demandSent) ∨
      (((∃ f, s.tilt.phase = .listening f) ∧ s.tilt.window = some 0) ∧ i = .exchangeWindowClose) ∨
      ((s.tilt.ch1.state = .locking ∧ s.tilt.ch1.lockTimer = some 0) ∧ i = .lockTimeout .CH1) ∨
      ((s.tilt.ch2.state = .locking ∧ s.tilt.ch2.lockTimer = some 0) ∧ i = .lockTimeout .CH2) ∨
      (s.node.unlockTimer = some 0 ∧ i = .unlockTimeout) ∨
      ((s.supervision.stage ≠ .lost ∧ s.supervision.timer = some 0) ∧ i = .livenessTimerExpiry) := by
  simp only [State.due, List.mem_append, List.mem_ite_nil_right, List.mem_singleton, sent_iff, listens_iff, ranOut_iff,
    or_assoc]

/-- The expiry chosen is one of those that are due. -/
theorem chooseDue_mem (s : State) (c : Instr) (cs : List Instr) : s.chooseDue c cs ∈ c :: cs := by
  cases cs with
  | nil => simp [State.chooseDue]
  | cons d ds =>
    have hlt : Config.expiryChoice s.freeCount % (ds.length + 2) < (c :: d :: ds).length :=
      Nat.mod_lt _ (Nat.succ_pos _)
    simp only [State.chooseDue, List.getD_eq_getElem?_getD, List.getElem?_eq_getElem hlt, Option.getD_some]
    exact List.getElem_mem hlt

theorem step_of_pending_nil {s : State} (h : s.pending = []) : step s = .next s.tick := by
  rw [step, h]

/-- With nothing due the oscillator's tick only lets time pass. -/
theorem tick_of_due_nil {s : State} (hr : s.pins.rstN = true) (hd : s.due = []) : s.tick = s.passTime := by
  rw [State.tick, if_pos hr, hd]

/-- Settles O2. -/
theorem emptyQueueLetsTimePass : Obligations.EmptyQueueLetsTimePass := by
  intro s hp
  rw [step_of_pending_nil hp]
  refine ⟨fun hr => ?low, fun hr hd => ?passes, fun hr hd => ?queued, ?_, ?_, ?_, fun c => ?_, ?_, ?_, fun i hi => ?named⟩
  case low => simp [State.tick, hr]
  case passes => exact congrArg _ (tick_of_due_nil hr hd)
  case queued =>
    obtain ⟨c, cs, hcs⟩ := List.exists_cons_of_ne_nil hd
    refine ⟨s.chooseDue c cs, hcs ▸ chooseDue_mem s c cs, ?_⟩
    simp only [State.tick, hr, hcs, if_true]
  case named =>
    obtain ⟨-, rfl⟩ | ⟨-, rfl⟩ | ⟨-, rfl⟩ | ⟨-, rfl⟩ | ⟨-, rfl⟩ | ⟨-, rfl⟩ | ⟨-, rfl⟩ := (mem_due_iff s i).mp hi <;> simp
  all_goals rw [mem_due_iff]
  · simp
  · simp
  · simp
  · cases c <;> simp
  · simp
  · simp

end Sys2Proof.Machine
end

section
/-! PROOFS. Faults (R123, R135 to R140): what raising one does to each block, and the liveness timer (R132, R133). -/

namespace Sys2Proof.Machine

/-! ## What raising a fault does to each block -/

/-- The node once Node Control has applied a fault of a class (R123). -/
def State.struck (s : State) (cls : FaultClass) : State := if cls.stopping then s.stop else s

theorem stop_setSupervision (s : State) (v : Supervision) : (s.setSupervision v).stop = s.stop.setSupervision v := by
  unfold State.stop
  rw [State.setSupervision_node]
  split <;> rfl

theorem requestAlert_eq (s : State) (cls : FaultClass) :
    s.requestAlert cls = s.setTrunk (s.requestAlert cls).trunk := by
  unfold State.requestAlert
  split <;> rfl

/-- A fault raised: the blocks of the node that it strikes, the offer to the list, and what the ALERT makes of the trunk. -/
theorem raise_eq (s : State) (cls : FaultClass) (ch : Option Channel) (d : Nat) :
    s.raise cls ch d =
      ((s.struck cls).setSupervision (s.offerFault cls ch d)).setTrunk (s.raise cls ch d).trunk := by
  have hacted : (if cls.stopping then (s.setSupervision (s.offerFault cls ch d)).stop
      else s.setSupervision (s.offerFault cls ch d)) = (s.struck cls).setSupervision (s.offerFault cls ch d) := by
    unfold State.struck
    split
    · rw [stop_setSupervision]
    · rfl
  simp only [State.raise, hacted]
  split
  · exact requestAlert_eq _ _
  · rfl

section
variable (s : State) (cls : FaultClass) (ch : Option Channel) (d : Nat)

theorem raise_node : (s.raise cls ch d).node = (s.struck cls).node := by rw [raise_eq]; rfl
theorem raise_tilt : (s.raise cls ch d).tilt = (s.struck cls).tilt := by rw [raise_eq]; rfl
theorem raise_generator : (s.raise cls ch d).generator = (s.struck cls).generator := by rw [raise_eq]; rfl
theorem raise_supervision : (s.raise cls ch d).supervision = s.offerFault cls ch d := by rw [raise_eq]; rfl
end

/-- A fault strikes nothing: its class stops no node, or the node is SAFE or OFFLINE already (R123). -/
theorem struck_eq_self {s : State} {cls : FaultClass}
    (h : cls.stopping = false ∨ s.node.state = .safe ∨ s.node.state = .offline) : s.struck cls = s := by
  unfold State.struck State.stop
  obtain h | h | h := h
  · simp [h]
  · simp [h]
  · simp [h]

/-- A node-stopping fault takes STANDBY, ACTIVE and WINDDOWN to SAFE (R123). -/
theorem struck_eq_standDown {s : State} {cls : FaultClass} (hc : cls.stopping = true)
    (h : s.node.state = .standby ∨ s.node.state = .active ∨ s.node.state = .winddown) :
    s.struck cls = s.standDown .safe := by
  unfold State.struck State.stop
  obtain h | h | h := h <;> simp [hc, h]

/-! ## The offer to the list (R136) -/

section
variable {s : State} {cls : FaultClass} {ch : Option Channel} {d : Nat}

theorem holds_iff (v : Supervision) :
    v.holds cls ch = true ↔ ∃ r ∈ v.faults, r.cls = cls ∧ r.channel = ch := by
  simp [Supervision.holds]

theorem judgeFault_suppressed (h : s.node.state = .safe ∧ ∃ r ∈ s.supervision.faults, r.cls = cls ∧ r.channel = ch) :
    s.judgeFault cls ch = .suppressed := by
  rw [← holds_iff] at h
  simp [State.judgeFault, h]

theorem judgeFault_overflow
    (h : ¬(s.node.state = .safe ∧ ∃ r ∈ s.supervision.faults, r.cls = cls ∧ r.channel = ch))
    (hl : 8 ≤ s.supervision.faults.length) : s.judgeFault cls ch = .overflow := by
  rw [← holds_iff] at h
  simp only [State.judgeFault, if_neg h]
  exact if_pos hl

theorem judgeFault_stored
    (h : ¬(s.node.state = .safe ∧ ∃ r ∈ s.supervision.faults, r.cls = cls ∧ r.channel = ch))
    (hl : s.supervision.faults.length < 8) : s.judgeFault cls ch = .stored := by
  rw [← holds_iff] at h
  simp only [State.judgeFault, if_neg h]
  exact if_neg (Nat.not_le.mpr hl)

theorem offerFault_suppressed (h : s.judgeFault cls ch = .suppressed) :
    s.offerFault cls ch d = s.supervision := by
  simp [State.offerFault, h]

theorem offerFault_overflow (h : s.judgeFault cls ch = .overflow) :
    s.offerFault cls ch d =
      { s.supervision with overflow := true, overflowCount := bump16 s.supervision.overflowCount } := by
  simp [State.offerFault, h]

theorem offerFault_stored (h : s.judgeFault cls ch = .stored) :
    s.offerFault cls ch d =
      { s.supervision with
        faults := s.supervision.faults ++ [s.faultRecord cls ch d], sequence := s.supervision.sequence + 1 } := by
  simp [State.offerFault, h]
end

/-! ## The ALERT (R139, R140) -/

section
variable {s : State} {cls : FaultClass} {ch : Option Channel} {d : Nat}

theorem alertWaits_iff (t : Trunk) : t.alertWaits = true ↔ ∃ x ∈ t.own, x.kind = kindAlert := by
  simp [Trunk.alertWaits]

@[simp] theorem struck_trunk (s : State) (cls : FaultClass) : (s.struck cls).trunk = s.trunk := by
  unfold State.struck
  split <;> simp

/-- An offer that requests no ALERT leaves the Trunk Unit as it is. -/
theorem raise_trunk_of_no_request (h : s.requestsAlert cls ch = false) : (s.raise cls ch d).trunk = s.trunk := by
  simp only [State.raise, h, Bool.false_eq_true, if_false]
  split <;> simp

/-- A request lapses while the head port is unknown and is absorbed while an ALERT waits (R140). -/
theorem raise_trunk_of_absorbed (h : s.trunk.headPort = none ∨ ∃ x ∈ s.trunk.own, x.kind = kindAlert) :
    (s.raise cls ch d).trunk = s.trunk := by
  have habsorbed : (s.trunk.headPort.isSome && !s.trunk.alertWaits) = false := by
    rw [← alertWaits_iff] at h
    rcases h with h | h <;> simp [h]
  obtain h | ⟨u, hu, h⟩ := raise_trunk s cls ch d
  · exact h
  · rw [h, State.requestAlert, hu, habsorbed]
    exact hu

/-- An ALERT placed carries the newest record, the class, the node state and the overflow flag that the fault left. -/
theorem raise_trunk_of_request (h : s.requestsAlert cls ch = true) (hh : s.trunk.headPort ≠ none)
    (ha : ∀ x ∈ s.trunk.own, x.kind ≠ kindAlert) :
    (s.raise cls ch d).trunk = s.trunk.placeOwn (s.trunk.originate kindAlert 0
      [(s.offerFault cls ch d).newest, cls.code, (s.raise cls ch d).node.state.code,
        flagByte (s.offerFault cls ch d).overflow]) := by
  have hplaced : ∀ u : State, u.trunk = s.trunk →
      u.requestAlert cls = u.setTrunk (s.trunk.placeOwn (s.trunk.originate kindAlert 0
        [u.supervision.newest, cls.code, u.node.state.code, flagByte u.supervision.overflow])) := by
    intro u hu
    have hwaits : s.trunk.alertWaits = false := by
      rw [Bool.eq_false_iff, Ne, alertWaits_iff]
      exact fun ⟨x, hx, hk⟩ => ha x hx hk
    rw [State.requestAlert, hu, Option.isSome_iff_ne_none.mpr hh, hwaits]
    simp only [State.alertTelegram, hu]
    rfl
  rw [raise_node]
  simp only [State.raise, h, if_true]
  by_cases hc : cls.stopping = true
  · simp only [State.struck, hc, if_true, stop_setSupervision]
    rw [hplaced (s.stop.setSupervision (s.offerFault cls ch d)) (by simp)]
    simp
  · simp only [State.struck, if_neg hc]
    rw [hplaced (s.setSupervision (s.offerFault cls ch d)) rfl]
    rfl
end

/-- Settles O46: the three outcomes of the offer, each with the ALERT that it asks for. -/
theorem faultsAreOfferedToTheList : Obligations.FaultsAreOfferedToTheList := by
  intro s cls ch d
  refine ⟨fun hm => ?suppressed, fun hm hl => ?overflow, fun hm hl => ?stored, raise_trunk_of_absorbed, by simp, by simp,
    by simp, by simp⟩
  case suppressed =>
    have hj := judgeFault_suppressed hm
    rw [raise_supervision]
    exact ⟨offerFault_suppressed hj, raise_trunk_of_no_request (by simp [State.requestsAlert, hj])⟩
  case overflow =>
    have hj := judgeFault_overflow hm hl
    simp only [raise_supervision, offerFault_overflow hj]
    refine ⟨rfl, fun ho => raise_trunk_of_no_request (by simp [State.requestsAlert, hj, ho]), fun ho hh ha r hr => ?_⟩
    rw [raise_trunk_of_request (by simp [State.requestsAlert, hj, ho]) hh ha, offerFault_overflow hj]
    simp only [Supervision.newest, hr]
    rfl
  case stored =>
    have hj := judgeFault_stored hm hl
    simp only [raise_supervision, offerFault_stored hj]
    refine ⟨rfl, fun hh ha => ?_⟩
    rw [raise_trunk_of_request (by simp [State.requestsAlert, hj]) hh ha, offerFault_stored hj]
    simp only [Supervision.newest, List.getLast?_append, List.getLast?_singleton]
    rfl

/-! ## What a stop does to the channels (R97) -/

theorem standDown_tilted {x : TiltChannel} (time : Nat) (h : x.state = .tracking ∨ x.state = .returning) :
    x.standDown time = { x with state := .returning } := by
  rcases h with h | h <;> simp [TiltChannel.standDown, h]

theorem standDown_unlocking {x : TiltChannel} (time : Nat) (h : x.state = .unlocking) :
    x.standDown time = x.enterLocking time := by
  simp [TiltChannel.standDown, h]

theorem standDown_rest {x : TiltChannel} (time : Nat)
    (h : x.state = .locked ∨ x.state = .locking ∨ x.state = .failed) : x.standDown time = x := by
  rcases h with h | h | h <;> simp [TiltChannel.standDown, h]

theorem channel_standDown (s : State) (n : NodeState) (c : Channel) :
    (s.standDown n).channel c = (s.channel c).standDown s.lockTime := by
  cases c <;> rfl

/-- The moves of R97, for a channel of a node that stands down. -/
theorem standDown_moves (s : State) (n : NodeState) (c : Channel) :
    ((s.channel c).state = .tracking ∨ (s.channel c).state = .returning →
        (s.standDown n).channel c = { s.channel c with state := .returning }) ∧
      ((s.channel c).state = .unlocking → (s.standDown n).channel c = (s.startsLocking c).channel c) ∧
      ((s.channel c).state = .locked ∨ (s.channel c).state = .locking ∨ (s.channel c).state = .failed →
        (s.standDown n).channel c = s.channel c) := by
  rw [channel_standDown]
  refine ⟨standDown_tilted _, fun h => ?_, standDown_rest _⟩
  rw [standDown_unlocking _ h, State.startsLocking, State.channel_setChannel]
  rfl

/-- Settles O47. -/
theorem stoppingFaultsTakeTheNodeToSafe : Obligations.StoppingFaultsTakeTheNodeToSafe := by
  intro s cls ch d
  simp only [raise_node, raise_tilt, raise_generator]
  refine ⟨fun h => ?nothing, fun hw he hn => ?stops⟩
  case nothing =>
    have hself : s.struck cls = s := by
      apply struck_eq_self
      rcases h with rfl | rfl | h
      · exact .inl rfl
      · exact .inl rfl
      · exact .inr h
    simp [hself]
  case stops =>
    have hc : cls.stopping = true := by
      cases cls with
      | window => exact absurd rfl hw
      | enumeration => exact absurd rfl he
      | _ => rfl
    have hchannel : ∀ c, (s.raise cls ch d).channel c = (s.standDown .safe).channel c := by
      intro c
      cases c <;> simp [raise_tilt, struck_eq_standDown hc hn]
    simp only [hchannel, struck_eq_standDown hc hn]
    exact ⟨rfl, rfl, rfl, standDown_moves s .safe⟩

/-! ## The law of the Supervision Unit -/

theorem supervisionLaw_initial : Supervision.initial.Law :=
  ⟨by simp [Supervision.initial], by simp [Supervision.initial], by simp [Supervision.initial],
    by simp [Supervision.initial], by simp [Supervision.initial]⟩

/-- A record stored keeps the numbers consecutive up to the counter (R137). -/
theorem supervisionLaw_store {v : Supervision} (h : v.Law) (hl : v.faults.length < 8) (r : FaultRecord)
    (hr : r.sequence = v.sequence) :
    ({ v with faults := v.faults ++ [r], sequence := v.sequence + 1 } : Supervision).Law where
  capacity := by simp; omega
  consecutive := by
    intro i x hx
    simp only [List.length_append, List.length_singleton] at *
    rcases Nat.lt_trichotomy i v.faults.length with hlt | rfl | hgt
    · rw [List.getElem?_append_left hlt] at hx
      have hnext : v.faults.length + 1 - i = v.faults.length - i + 1 := by omega
      rw [hnext, BitVec.ofNat_add, ← BitVec.add_assoc, h.consecutive i x hx]
      rfl
    · simp at hx
      subst hx
      simp [hr]
    · rw [List.getElem?_eq_none (by simp; omega)] at hx
      cases hx
  overflow := h.overflow
  counts := h.counts
  timer := h.timer

theorem bump16_le (n : Nat) : bump16 n ≤ 65535 := Nat.min_le_left _ _

theorem bump16_pos (n : Nat) : 0 < bump16 n := by
  unfold bump16
  omega

theorem supervisionLaw_overflow {v : Supervision} (h : v.Law) :
    ({ v with overflow := true, overflowCount := bump16 v.overflowCount } : Supervision).Law where
  capacity := h.capacity
  consecutive := h.consecutive
  overflow := iff_of_true rfl (bump16_pos _)
  counts := ⟨bump16_le _, h.counts.2⟩
  timer := h.timer

theorem supervisionLaw_offerFault {s : State} (h : s.supervision.Law) (cls : FaultClass) (ch : Option Channel)
    (d : Nat) : (s.offerFault cls ch d).Law := by
  unfold State.offerFault
  split
  · exact h
  · exact supervisionLaw_overflow h
  · next hj =>
    have hl : s.supervision.faults.length < 8 := by
      refine Nat.lt_of_not_le fun hle => ?_
      unfold State.judgeFault at hj
      split at hj
      · cases hj
      · rw [if_pos (show Config.faultCapacity ≤ _ from hle)] at hj
        cases hj
    exact supervisionLaw_store h hl _ rfl

theorem supervisionLaw_raise {s : State} (h : s.supervision.Law) (cls : FaultClass) (ch : Option Channel) (d : Nat) :
    (s.raise cls ch d).supervision.Law := by
  rw [raise_supervision]
  exact supervisionLaw_offerFault h cls ch d

/-- A stage and a timer that agree, and any register with a counted number of ignored broadcasts, keep the law. -/
theorem supervisionLaw_liveness {v : Supervision} (h : v.Law) {stage : Stage} {timer : Option Nat}
    (ht : stage = .lost ↔ timer = none) : ({ v with stage := stage, timer := timer } : Supervision).Law :=
  ⟨h.capacity, h.consecutive, h.overflow, h.counts, ht⟩

theorem supervisionLaw_register {v : Supervision} (h : v.Law) (r : Option Snapshot) {n : Nat} (hn : n ≤ 65535) :
    ({ v with snapshot := r, ignoredSnapshots := n } : Supervision).Law :=
  ⟨h.capacity, h.consecutive, h.overflow, ⟨h.counts.1, hn⟩, h.timer⟩

theorem supervisionLaw_cleared {v : Supervision} (h : v.Law) :
    ({ v with faults := [], overflow := false, overflowCount := 0 } : Supervision).Law :=
  ⟨by simp, by simp, by simp, ⟨Nat.zero_le _, h.counts.2⟩, h.timer⟩

theorem supervisionLaw_sampleTach {s : State} (h : s.supervision.Law) (q : Bool × Bool) :
    (s.sampleTach q).supervision.Law := by
  unfold State.sampleTach State.phaseFault
  (repeat' split) <;> simp [supervisionLaw_raise, h]

theorem supervisionLaw_expireLiveness {s : State} (h : s.supervision.Law) : s.expireLiveness.supervision.Law := by
  have hlost := supervisionLaw_liveness (timer := none) h (iff_of_true rfl rfl)
  unfold State.expireLiveness
  split
  · exact supervisionLaw_liveness h (by simp)
  · unfold State.becomeLost
    split
    · exact supervisionLaw_raise hlost _ _ _
    · exact supervisionLaw_raise hlost _ _ _
    all_goals exact hlost
  · exact h

theorem supervisionLaw_discrepancy {s : State} (h : s.supervision.Law) : s.discrepancy.supervision.Law := by
  unfold State.discrepancy
  dsimp only
  split
  · exact supervisionLaw_raise (by simpa using h) _ _ _
  · exact h

theorem supervisionLaw_updatePosition {s : State} (h : s.supervision.Law) (q : Int) (fix : Bool) :
    (s.updatePosition q fix).supervision.Law := by
  unfold State.updatePosition
  dsimp only
  split
  · split <;> simpa using h
  · split
    · simpa using h
    · exact supervisionLaw_discrepancy h

theorem supervisionLaw_takePosition {s : State} (h : s.supervision.Law) (b : PositionBody) :
    (s.takePosition b).supervision.Law := by
  have haccepted : ∀ d, (s.acceptPosition b d).supervision.Law := fun d => supervisionLaw_liveness h (by simp)
  unfold State.takePosition State.applyPosition
  split
  · exact h
  · split
    · dsimp only
      split
      · exact supervisionLaw_updatePosition (haccepted _) _ _
      · exact haccepted _
    · exact h

theorem supervisionLaw_takeSegment {s : State} (h : s.supervision.Law) (b : SegmentBody) :
    (s.takeSegment b).supervision.Law := by
  unfold State.takeSegment State.refuseSegment
  dsimp only
  split
  · exact h
  · split
    · exact h
    · exact supervisionLaw_raise (by simpa using h) _ _ _
  · exact h

theorem supervisionLaw_takeEnumerate {s : State} (h : s.supervision.Law) (p : Port) (n : Byte) :
    (s.takeEnumerate p n).supervision.Law := by
  unfold State.takeEnumerate State.beyondSixteen
  (repeat' split) <;> simp [supervisionLaw_raise, h]

theorem supervisionLaw_takeSnapshot {s : State} (h : s.supervision.Law) (tag : Half) :
    (s.takeSnapshot tag).supervision.Law := by
  unfold State.takeSnapshot
  split
  · exact supervisionLaw_register h _ h.counts.2
  · exact supervisionLaw_register h _ (bump16_le _)

theorem supervisionLaw_takeReset {s : State} (h : s.supervision.Law) (tag : Half) :
    (s.takeReset tag).supervision.Law := by
  unfold State.takeReset
  (repeat' split)
  any_goals simpa using h
  all_goals
    show ({ (s.ackCommand tag resultOk none).supervision with
      stage := .lost, timer := none, snapshot := none, ignoredSnapshots := 0 } : Supervision).Law
    rw [(State.ackCommand_frame s tag resultOk none).2.2.2.2.2.2.2.1]
    exact supervisionLaw_register (supervisionLaw_liveness (timer := none) h (iff_of_true rfl rfl)) none (Nat.zero_le _)

theorem supervisionLaw_takeCommand {s : State} (h : s.supervision.Law) (tag : Half) (code : Byte) :
    (s.takeCommand tag code).supervision.Law := by
  unfold State.takeCommand
  split
  case h_4 =>
    unfold State.takeClearFaults
    have hcleared : s.clearFaults.supervision.Law := supervisionLaw_cleared h
    split
    case h_5 => simpa using h
    all_goals simpa using hcleared
  case h_5 => exact supervisionLaw_takeReset h tag
  all_goals simpa using h

theorem supervisionLaw_takeQuery {s : State} (h : s.supervision.Law) (tag : Half) (item u v : Byte) :
    (s.takeQuery tag item u v).supervision.Law := by
  unfold State.takeQuery
  split
  case h_7 => simpa [State.answerSnapshot] using supervisionLaw_register h none h.counts.2
  all_goals simpa using h

theorem supervisionLaw_actOn {s : State} (h : s.supervision.Law) (p : Port) (x : Telegram) :
    (actOn p x s).supervision.Law := by
  rcases hb : x.body with _ | b
  · simpa [actOn, hb] using h
  rw [actOn_of_body hb]
  cases b with
  | position b => exact supervisionLaw_takePosition h b
  | segment b => exact supervisionLaw_takeSegment h b
  | snapshot => exact supervisionLaw_takeSnapshot h x.tag
  | enumerate n => exact supervisionLaw_takeEnumerate h p n
  | command c => exact supervisionLaw_takeCommand h x.tag c
  | query i u v => exact supervisionLaw_takeQuery h x.tag i u v
  | _ => simpa [actOnBody] using h

theorem supervisionLaw_missExchange {s : State} (h : s.supervision.Law) (c : Channel) (d : ExchangeDefect) :
    (s.missExchange c d).supervision.Law := by
  unfold State.missExchange
  dsimp only
  split <;> simp [supervisionLaw_raise, h]

theorem supervisionLaw_superviseTracking {s : State} (h : s.supervision.Law) (c : Channel) (m : Int) :
    (s.superviseTracking c m).supervision.Law := by
  unfold State.superviseTracking
  dsimp only
  (repeat' split) <;> simp [supervisionLaw_raise, h]

theorem supervisionLaw_applyLockState {s : State} (h : s.supervision.Law) (c : Channel) (l : LockState) (d m : Int) :
    (s.applyLockState c l d m).supervision.Law := by
  unfold State.applyLockState State.applyLocked
  (repeat' split) <;> simp [supervisionLaw_raise, h]

theorem supervisionLaw_goodFeedback {s : State} (h : s.supervision.Law) (f : DemandFrame) (a : Int) (l : LockState)
    (k : Nat) : (s.goodFeedback f a l k).supervision.Law := by
  refine supervisionLaw_applyLockState (supervisionLaw_superviseTracking ?_ _ _) _ _ _ _
  unfold State.testDriveFault
  split <;> simp [supervisionLaw_raise, h]

theorem supervisionLaw_exec {c : Instr} {s t : State} (ht : exec c s = .next t) (h : s.supervision.Law) :
    t.supervision.Law :=
  exec_keeps (P := fun s => s.supervision.Law) (fun _ _ _ h => h) (fun _ _ _ => supervisionLaw_initial)
    (fun _ p x _ _ h => supervisionLaw_actOn h p x) (fun _ h => by simpa using h) (fun _ _ _ _ h => by simpa using h)
    (fun _ _ _ _ h => supervisionLaw_missExchange (by simpa using h) _ _)
    (fun _ _ _ _ _ _ h => supervisionLaw_goodFeedback (by simpa using h) _ _ _ _)
    (fun _ _ _ h => supervisionLaw_raise (by simpa using h) _ _ _)
    (fun _ _ h => supervisionLaw_raise (by simpa using h) _ _ _) (fun _ _ h => supervisionLaw_expireLiveness h)
    (fun _ q h => supervisionLaw_sampleTach h q) c s t ht h

theorem supervisionLaw_tick {s : State} (h : s.supervision.Law) : s.tick.supervision.Law := by
  obtain ⟨-, e⟩ | ⟨-, -, e⟩ | ⟨c, cs, -, -, e⟩ := tick_cases s
  · rwa [e]
  · rw [e]
    refine supervisionLaw_liveness h (h.timer.trans ?_)
    simp [tickTimer]
  · rwa [e]

/-- Settles O48. -/
theorem stepsKeepTheSupervisionLaw : Obligations.StepsKeepTheSupervisionLaw :=
  fun _ _ h hlaw => step_keeps (P := fun s => s.supervision.Law) (fun _ _ h => h) (fun _ h => supervisionLaw_tick h)
    (fun _ _ _ => supervisionLaw_exec) h hlaw

/-! ## The liveness timer (R132, R133) -/

theorem exec_liveness {s : State} (hr : s.pins.rstN = true) :
    exec .livenessTimerExpiry s = .next (if s.supervision.timer.isSome then s.expireLiveness else s) :=
  event_high _ s hr

/-- Settles O45, by the stage. -/
theorem livenessTimerExpires : Obligations.LivenessTimerExpires := by
  intro s hr
  simp only [exec_liveness hr, ← Option.isSome_iff_ne_none]
  refine ⟨fun h => ?stopped, fun ht hg => ?fresh, fun ht hg hn => ?stopping, fun ht hg hn => ?quiet⟩
  case stopped =>
    rcases h with h | h
    · simp [h]
    · simp [State.expireLiveness, h]
  case fresh =>
    rw [if_pos ht, State.expireLiveness, hg]
    rfl
  case stopping =>
    rw [if_pos ht, State.expireLiveness, hg]
    rcases hn with hn | hn <;> simp only [State.becomeLost, hn] <;> rfl
  case quiet =>
    rw [if_pos ht, State.expireLiveness, hg]
    rcases hn with hn | hn | hn <;> simp only [State.becomeLost, hn] <;> rfl

end Sys2Proof.Machine
end

section
/-! PROOFS. The law of the Trunk Unit through every step (R145, R151, R153, R159). -/

namespace Sys2Proof.Machine

theorem trunkLaw_initial : Trunk.initial.Law :=
  ⟨portLaw_initial, portLaw_initial, by simp [Trunk.initial], by simp [Trunk.initial], by simp [Trunk.initial],
    by simp [Trunk.initial], by simp [Trunk.initial], by simp [Trunk.initial], by simp [Trunk.initial],
    by simp [Trunk.initial], by simp [Trunk.initial], rfl⟩

/-! ## Through the rows of the ports and of the channels -/

theorem trunkLaw_portEffect {t u : Trunk} {c : Instr} (h : t.Law) (hc : PortEffect t c u) : u.Law := by
  cases hc with
  | signal p => exact trunkLaw_signalAppears h p
  | train p xs => exact trunkLaw_train h p xs
  | loss p => exact trunkLaw_goDown h p
  | errors p => exact trunkLaw_goDown h p
  | delimiter p => exact trunkLaw_startReceiving h p
  | choice => exact trunkLaw_arbiterChoice h
  | transit p => exact trunkLaw_transitStart h p
  | ended p => exact trunkLaw_endTransmission h p

theorem trunkLaw_sampleTach {s : State} (h : s.trunk.Law) (q : Bool × Bool) : (s.sampleTach q).trunk.Law := by
  unfold State.sampleTach
  (repeat' split)
  case h_2.isFalse.isFalse.isFalse =>
    unfold State.phaseFault
    dsimp only
    split
    · exact trunkLaw_raise (by simpa using h) _ _ _
    · simpa using h
  all_goals simpa using h

theorem trunkLaw_missExchange {s : State} (h : s.trunk.Law) (c : Channel) (d : ExchangeDefect) :
    (s.missExchange c d).trunk.Law := by
  unfold State.missExchange
  dsimp only
  split
  · exact trunkLaw_raise (by simpa using h) _ _ _
  · simpa using h

theorem trunkLaw_testDriveFault {s : State} (h : s.trunk.Law) (c : Channel) (old new : Nat) :
    (s.testDriveFault c old new).trunk.Law := by
  unfold State.testDriveFault
  split
  · exact trunkLaw_raise h _ _ _
  · exact h

theorem trunkLaw_superviseTracking {s : State} (h : s.trunk.Law) (c : Channel) (m : Int) :
    (s.superviseTracking c m).trunk.Law := by
  unfold State.superviseTracking
  dsimp only
  split
  iterate 2
    split
    · simpa using h
    · split
      · exact trunkLaw_raise (by simpa using h) _ _ _
      · simpa using h
  exact h

theorem trunkLaw_applyLockState {s : State} (h : s.trunk.Law) (c : Channel) (l : LockState) (d m : Int) :
    (s.applyLockState c l d m).trunk.Law := by
  unfold State.applyLockState
  split
  case h_6 =>
    unfold State.applyLocked
    split
    · exact trunkLaw_raise (by simpa using h) _ _ _
    · exact h
  case h_4 | h_5 => split <;> simpa using h
  all_goals simpa using h

theorem trunkLaw_goodFeedback {s : State} (h : s.trunk.Law) (f : DemandFrame) (a : Int) (l : LockState) (k : Nat) :
    (s.goodFeedback f a l k).trunk.Law :=
  trunkLaw_applyLockState (trunkLaw_superviseTracking (trunkLaw_testDriveFault (by simpa using h) _ _ _) _ _) _ _ _ _

theorem trunkLaw_expireLiveness {s : State} (h : s.trunk.Law) : s.expireLiveness.trunk.Law := by
  unfold State.expireLiveness
  split
  · simpa using h
  · unfold State.becomeLost
    dsimp only
    split
    any_goals exact h
    all_goals exact trunkLaw_raise (by simpa using h) _ _ _
  · exact h

/-! ## Through what a delivered telegram does -/

theorem trunkLaw_ackCommand {s : State} (h : s.trunk.Law) (tag : Half) (r : Byte) (d : Option Nat) :
    (s.ackCommand tag r d).trunk.Law := trunkLaw_ack h _ _ _ _

theorem trunkLaw_takePosition {s : State} (h : s.trunk.Law) (b : PositionBody) : (s.takePosition b).trunk.Law := by
  have hupdated : ∀ (u : State), u.trunk.Law → ∀ q fix, (u.updatePosition q fix).trunk.Law := by
    intro u hu q fix
    unfold State.updatePosition
    dsimp only
    split
    · split <;> simpa using hu
    · split
      · simpa using hu
      · unfold State.discrepancy
        dsimp only
        split
        · exact trunkLaw_raise (by simpa using hu) _ _ _
        · exact hu
  unfold State.takePosition
  split
  · exact h
  · split
    · unfold State.applyPosition
      dsimp only
      split
      · exact hupdated _ (by simpa using h) _ _
      · simpa using h
    · exact h

theorem trunkLaw_takeSegment {s : State} (h : s.trunk.Law) (b : SegmentBody) : (s.takeSegment b).trunk.Law := by
  unfold State.takeSegment
  split
  · exact h
  · unfold State.refuseSegment
    dsimp only
    split
    · exact h
    · exact trunkLaw_raise (by simpa using h) _ _ _
  · exact h

/-- An address of 1 to 16 and a head port, or neither (R145, R155, R157). -/
theorem trunkLaw_setHead {t : Trunk} (h : t.Law) (p : Port) {n : Nat} (h1 : 1 ≤ n) (h16 : n ≤ 16) :
    ({ t with headPort := some p, address := some n } : Trunk).Law where
  portA := h.portA
  portB := h.portB
  queueA := h.queueA
  queueB := h.queueB
  own := h.own
  alerts := h.alerts
  arbiter := h.arbiter
  rxErrors := h.rxErrors
  wrongSide := h.wrongSide
  drops := h.drops
  address := by simp only [Option.some.injEq]; omega
  headKnown := rfl

theorem trunkLaw_clearHead {t : Trunk} (h : t.Law) : ({ t with headPort := none, address := none } : Trunk).Law where
  portA := h.portA
  portB := h.portB
  queueA := h.queueA
  queueB := h.queueB
  own := h.own
  alerts := h.alerts
  arbiter := h.arbiter
  rxErrors := h.rxErrors
  wrongSide := h.wrongSide
  drops := h.drops
  address := by simp
  headKnown := rfl

theorem trunkLaw_renumber {s : State} (h : s.trunk.Law) (p : Port) {n : Nat} (h1 : 1 ≤ n) (h16 : n ≤ 16) :
    (s.renumber p n).trunk.Law := by
  have hchanged : s.changeHead.trunk.Law := trunkLaw_discardOwn h
  refine trunkLaw_setHead ?_ p h1 h16
  (repeat' split)
  any_goals simpa using h
  all_goals simpa using hchanged

theorem trunkLaw_takeEnumerate {s : State} (h : s.trunk.Law) (p : Port) (n : Byte) :
    (s.takeEnumerate p n).trunk.Law := by
  have hunnumbered : s.unnumber.trunk.Law := by
    refine trunkLaw_clearHead (trunkLaw_discardOwn ?_)
    split <;> simpa using h
  have hbeyond : s.beyondSixteen.trunk.Law := by
    refine trunkLaw_raise ?_ _ _ _
    split
    · exact h
    · exact hunnumbered
  unfold State.takeEnumerate
  split
  · exact h
  · next hn =>
    have hpos : 1 ≤ n.toNat := Nat.one_le_iff_ne_zero.mpr fun e => hn (BitVec.eq_of_toNat_eq e)
    split
    any_goals exact trunkLaw_raise h _ _ _
    all_goals
      split
      · exact trunkLaw_renumber h p hpos ‹_›
      · exact hbeyond

theorem trunkLaw_takeParam {s : State} (h : s.trunk.Law) (tag : Half) (i : Byte) (v : Word) :
    (s.takeParam tag i v).trunk.Law := by
  unfold State.takeParam
  (repeat' split) <;> exact trunkLaw_ack (by simpa using h) _ _ _ _

theorem trunkLaw_takeCommand {s : State} (h : s.trunk.Law) (tag : Half) (code : Byte) :
    (s.takeCommand tag code).trunk.Law := by
  unfold State.takeCommand
  split
  case h_1 =>
    unfold State.takeEnable
    (repeat' split) <;> exact trunkLaw_ackCommand (by simpa using h) _ _ _
  case h_2 =>
    unfold State.takeDisable
    split <;> exact trunkLaw_ackCommand (by simpa using h) _ _ _
  case h_3 =>
    unfold State.takeRelease
    (repeat' split) <;> exact trunkLaw_ackCommand (by simpa using h) _ _ _
  case h_4 =>
    unfold State.takeClearFaults
    split <;> exact trunkLaw_ackCommand (by simpa using h) _ _ _
  case h_5 =>
    unfold State.takeReset
    (repeat' split) <;> exact trunkLaw_ackCommand h _ _ _
  case h_6 => exact trunkLaw_ackCommand h _ _ _

theorem trunkLaw_takeQuery {s : State} (h : s.trunk.Law) (tag : Half) (item u v : Byte) :
    (s.takeQuery tag item u v).trunk.Law := by
  unfold State.takeQuery
  split
  case h_4 =>
    unfold State.answerTableRow
    (repeat' split) <;> exact trunkLaw_report h _ _ _ _ _
  case h_5 =>
    unfold State.answerThresholds
    split <;> exact trunkLaw_report h _ _ _ _ _
  case h_6 =>
    unfold State.answerFaults
    split <;> exact trunkLaw_report h _ _ _ _ _
  case h_7 => exact trunkLaw_report (by simpa using h) _ _ _ _ _
  case h_9 =>
    unfold State.answerParam
    split <;> exact trunkLaw_report h _ _ _ _ _
  all_goals exact trunkLaw_report h _ _ _ _ _

theorem trunkLaw_actOn {s : State} (h : s.trunk.Law) (p : Port) (x : Telegram) : (actOn p x s).trunk.Law := by
  rcases hb : x.body with _ | b
  · simpa [actOn, hb] using h
  rw [actOn_of_body hb]
  cases b with
  | position b => exact trunkLaw_takePosition h b
  | segment b => exact trunkLaw_takeSegment h b
  | withdraw | snapshot => simpa [actOnBody] using h
  | enumerate n => exact trunkLaw_takeEnumerate h p n
  | param i v => exact trunkLaw_takeParam h x.tag i v
  | command c => exact trunkLaw_takeCommand h x.tag c
  | query i u v => exact trunkLaw_takeQuery h x.tag i u v
  | tableWrite | tableThresholds | tableTrim | bankVerify | bankSwap => exact trunkLaw_ack (by simpa using h) _ _ _ _

theorem trunkLaw_arrive {s : State} (h : s.trunk.Law) (p : Port) (x : Telegram) {act : State → State}
    (hact : ∀ u : State, u.trunk.Law → (act u).trunk.Law) : (s.arrive p x act).trunk.Law := by
  have htaken : (s.trunk.endReceiving p).Law := trunkLaw_endReceiving h p
  unfold State.arrive
  split
  · split
    · unfold State.routeGood
      split
      · exact trunkLaw_offer (hact _ htaken) _ _
      · exact hact _ htaken
      · exact trunkLaw_offer htaken _ _
      · exact trunkLaw_ack (by simpa using htaken) _ _ _ _
      · exact trunkLaw_countWrongSide htaken _
    · exact trunkLaw_countRxError htaken p
  · exact h

/-! ## The statement -/

theorem trunkLaw_effect {c : Instr} {s t : State} (hc : Effect s c t) (h : s.trunk.Law) : t.trunk.Law := by
  cases hc with
  | powerOn | low => exact trunkLaw_initial
  | port hp => exact trunkLaw_portEffect h hp
  | arrives _ => exact trunkLaw_arrive h _ _ fun _ hu => trunkLaw_actOn hu _ _
  | rejects p r => exact trunkLaw_countRxError (trunkLaw_endReceiving h p) p
  | idle => exact h
  | tach x y => exact trunkLaw_sampleTach h _
  | expiry => simpa using h
  | sent => simpa using h
  | missed => exact trunkLaw_missExchange (by simpa using h) _ _
  | fed => exact trunkLaw_goodFeedback (by simpa using h) _ _ _ _
  | lockTimeout c _ => exact trunkLaw_raise (by simpa using h) _ _ _
  | unlockTimeout _ => exact trunkLaw_raise (by simpa using h) _ _ _
  | liveness _ => exact trunkLaw_expireLiveness h

theorem exec_keeps_of_effect {P : State → Prop} (hpon : ∀ s pins, P s → P (s.powerOn pins))
    (heffect : ∀ c s t, Effect s c t → P s → P t) {c : Instr} {s t : State} (h : exec c s = .next t) (hP : P s) :
    P t := by
  cases hr : s.pins.rstN with
  | true => exact heffect c s t (effect_of_exec hr h) hP
  | false =>
    by_cases hc : ∃ x y, c = .powerOnReset x y
    · obtain ⟨x, y, rfl⟩ := hc
      cases h
      exact hpon _ _ hP
    by_cases hlow : c = .resetAsserted
    · subst hlow
      cases h
      exact hpon _ _ hP
    rw [exec_low hr (fun x y e => hc ⟨x, y, e⟩) hlow] at h
    cases h
    exact hP

/-- Settles O17. -/
theorem stepsKeepTheTrunkLaw : Obligations.StepsKeepTheTrunkLaw := by
  intro s t h hlaw
  refine step_keeps (P := fun s => s.trunk.Law) (fun _ _ h => h) (fun s h => ?tick) (fun _ _ _ => ?exec) h hlaw
  case tick =>
    obtain ⟨-, e⟩ | ⟨-, -, e⟩ | ⟨c, cs, -, -, e⟩ := tick_cases s <;> rwa [e]
  case exec =>
    exact exec_keeps_of_effect (P := fun s => s.trunk.Law) (fun _ _ _ => trunkLaw_initial) fun _ _ _ => trunkLaw_effect

end Sys2Proof.Machine
end

section
/-! PROOFS. The route window (chapter 1): its law through every step, admission, withdrawal and coverage. -/

namespace Sys2Proof.Machine

/-! ## Linked segments (R3) -/

theorem linked_cons {g : Segment} {gs : List Segment} :
    linked (g :: gs) ↔ (∀ h, gs.head? = some h → g.follows h) ∧ linked gs := by
  cases gs with
  | nil => exact iff_of_true trivial ⟨fun _ hh => absurd hh (by simp), trivial⟩
  | cons k rest =>
    exact ⟨fun ⟨hk, hrest⟩ => ⟨fun _ hh => Option.some.inj hh ▸ hk, hrest⟩, fun ⟨hk, hrest⟩ => ⟨hk k rfl, hrest⟩⟩

theorem linked_of_append {gs hs : List Segment} (h : linked (gs ++ hs)) : linked gs ∧ linked hs := by
  induction gs with
  | nil => exact ⟨trivial, h⟩
  | cons g gs ih =>
    obtain ⟨hg, hrest⟩ := linked_cons.mp h
    obtain ⟨hgs, hhs⟩ := ih hrest
    have hhead : ∀ k, gs.head? = some k → (gs ++ hs).head? = some k := fun k hk => by
      rw [List.head?_append, hk]
      rfl
    exact ⟨linked_cons.mpr ⟨fun k hk => hg k (hhead k hk), hgs⟩, hhs⟩

theorem linked_of_infix {gs hs : List Segment} (h : linked hs) (hi : gs <:+: hs) : linked gs := by
  obtain ⟨before, after, rfl⟩ := hi
  exact (linked_of_append (linked_of_append h).1).2

theorem linked_append {gs : List Segment} {g : Segment} (h : linked gs)
    (hg : ∀ tail, gs.getLast? = some tail → tail.follows g) : linked (gs ++ [g]) := by
  induction gs with
  | nil => trivial
  | cons k gs ih =>
    obtain ⟨hk, hgs⟩ := linked_cons.mp h
    cases gs with
    | nil => exact ⟨hg k rfl, trivial⟩
    | cons m rest => exact ⟨hk m rfl, ih hgs fun tail ht => hg tail (List.getLast?_cons_cons.trans ht)⟩

/-- What holds of a segment and the one that follows it holds of any two in order, when it is transitive. -/
theorem pairwise_of_linked {r : Segment → Segment → Prop} (htrans : ∀ g h k, r g h → r h k → r g k)
    (hr : ∀ g h : Segment, g.follows h → r g h) {gs : List Segment} (h : linked gs) : gs.Pairwise r := by
  induction gs with
  | nil => exact .nil
  | cons g gs ih =>
    obtain ⟨hg, hgs⟩ := linked_cons.mp h
    have hrest := ih hgs
    refine List.pairwise_cons.mpr ⟨fun x hx => ?_, hrest⟩
    cases gs with
    | nil => cases hx
    | cons k rest =>
      have hk := hr g k (hg k rfl)
      rcases List.mem_cons.mp hx with rfl | hx
      · exact hk
      · exact htrans g k x hk ((List.pairwise_cons.mp hrest).1 x hx)

/-- Ids increase strictly along linked segments. -/
theorem pairwise_id_of_linked {gs : List Segment} (h : linked gs) : gs.Pairwise (fun g h : Segment => g.id < h.id) :=
  pairwise_of_linked (r := fun g h => g.id < h.id) (fun _ _ _ => Nat.lt_trans) (fun _ _ hf => hf.1) h

/-- Segments lie one after another along linked segments. -/
theorem pairwise_stop_of_linked {gs : List Segment} (h : linked gs) : gs.Pairwise (fun g h : Segment => g.stop ≤ h.start) :=
  pairwise_of_linked (r := fun g h => g.stop ≤ h.start)
    (fun _ h _ hgh hhk => Nat.le_trans (Nat.le_trans hgh (Nat.le_add_right h.start h.length)) hhk)
    (fun _ _ hf => Nat.le_of_eq hf.2.1.symm) h

/-! ## Segments cut off at an id (R15) -/

section
variable {gs : List Segment} {n : Nat} (h : gs.Pairwise (fun g h : Segment => g.id < h.id))
include h

/-- The segments with an id below one given are the first ones. -/
theorem filter_id_lt : gs.filter (fun g => decide (g.id < n)) = gs.takeWhile (fun g => decide (g.id < n)) := by
  induction gs with
  | nil => rfl
  | cons g gs ih =>
    obtain ⟨hg, hgs⟩ := List.pairwise_cons.mp h
    by_cases hn : g.id < n
    · simp [hn, ih hgs]
    · have hnone : gs.filter (fun g => decide (g.id < n)) = [] := by
        rw [List.filter_eq_nil_iff]
        intro x hx
        have := hg x hx
        simp only [decide_eq_true_eq]
        omega
      simp [hn, hnone]

/-- With a segment of an id held, those before it are the ones with a lesser id. -/
theorem takeWhile_id_ne (hn : ∃ g ∈ gs, g.id = n) :
    gs.takeWhile (fun g => decide (g.id ≠ n)) = gs.filter (fun g => decide (g.id < n)) := by
  induction gs with
  | nil => simp at hn
  | cons g gs ih =>
    obtain ⟨hg, hgs⟩ := List.pairwise_cons.mp h
    by_cases hgn : g.id = n
    · have hnone : gs.filter (fun g => decide (g.id < n)) = [] := by
        rw [List.filter_eq_nil_iff]
        intro x hx
        have := hg x hx
        simp only [decide_eq_true_eq]
        omega
      simp [hgn, hnone]
    · obtain ⟨x, hx, hxn⟩ := hn
      have hin : x ∈ gs := by
        rcases List.mem_cons.mp hx with rfl | hx
        · exact absurd hxn hgn
        · exact hx
      have hlt : g.id < n := hxn ▸ hg x hin
      have hrest := ih hgs ⟨x, hin, hxn⟩
      simp only [ne_eq, decide_not] at hrest ⊢
      simp [hgn, hlt, hrest]

end

/-- What a withdrawal leaves are the first segments of the window (R15). -/
theorem withdrawal_prefix {gs : List Segment} (h : linked gs) (r : Granularity) (n : Nat) :
    (withdrawal gs r n).1 <+: gs := by
  unfold withdrawal
  (repeat' split)
  any_goals exact List.prefix_refl _
  any_goals exact List.nil_prefix
  · rw [filter_id_lt (pairwise_id_of_linked h)]
    exact List.takeWhile_prefix _
  · exact List.dropLast_prefix _
  · exact List.takeWhile_prefix _

/-! ## The law of the window through each operation -/

/-- Consecutive segments of a window that meets the law, with counters in range, meet it. -/
theorem windowLaw_infix {w v : RouteWindow} (h : w.Law) (hi : v.segments <:+: w.segments) (hr : v.refusals ≤ 65535)
    (hn : v.runouts ≤ 65535) : v.Law where
  depth := Nat.le_trans hi.length_le h.depth
  wellFormed := fun g hg => h.wellFormed g (hi.subset hg)
  linked := linked_of_infix h.linked hi
  refusals := hr
  runouts := hn

theorem windowLaw_initial : RouteWindow.initial.Law :=
  ⟨by simp [RouteWindow.initial], by simp [RouteWindow.initial], trivial, by simp [RouteWindow.initial],
    by simp [RouteWindow.initial]⟩

theorem windowLaw_withdraw {w : RouteWindow} (h : w.Law) (r : Granularity) (n : Nat) : (w.withdraw r n).Law :=
  windowLaw_infix h (withdrawal_prefix h.linked r n).isInfix h.refusals h.runouts

theorem windowLaw_retire {s : State} (h : s.window.Law) : s.retire.window.Law := by
  unfold State.retire
  split
  · exact windowLaw_infix h (List.dropWhile_suffix _).isInfix h.refusals h.runouts
  · exact h

theorem windowLaw_countRunout {s : State} (h : s.window.Law) : s.countRunout.window.Law :=
  windowLaw_infix h (List.infix_refl _) h.refusals (bump16_le _)

theorem windowLaw_formDemands {s : State} (h : s.window.Law) : s.formDemands.window.Law := by
  have hcounted : s.returnPair.countRunout.window.Law := windowLaw_countRunout (by simpa using h)
  unfold State.formDemands
  (repeat' split)
  any_goals simpa using h
  exact hcounted

theorem windowLaw_expirePeriod {s : State} (h : s.window.Law) : s.expirePeriod.window.Law := by
  simpa [State.expirePeriod] using windowLaw_formDemands (windowLaw_retire (by simpa using h))

/-- What admission appends is well-formed and follows the tail, and there is room for it (R10, R11). -/
theorem judge_appended {w : RouteWindow} {b : SegmentBody} {g : Segment} (h : w.judge b = .appended g) :
    g.wf = true ∧ (∀ tail, w.segments.getLast? = some tail → tail.follows g ∧ w.segments.length < 64) := by
  unfold RouteWindow.judge at h
  split at h
  · cases h
  · next x _ =>
    split at h
    · cases h
    · split at h
      · next hwf =>
        unfold RouteWindow.checkTail at h
        split at h
        · next hnone =>
          cases h
          exact ⟨hwf, fun tail ht => by simp [hnone] at ht⟩
        · next tail htail =>
          split at h
          · cases h
          · next hid =>
            split at h
            · cases h
            · next hgap =>
              split at h
              · cases h
              · next hmatch =>
                split at h
                · cases h
                · next hroom =>
                  cases h
                  refine ⟨hwf, fun tail' ht => ?_⟩
                  obtain rfl : tail = tail' := Option.some.inj (htail.symm.trans ht)
                  exact ⟨⟨by omega, Decidable.not_not.mp hgap, Decidable.not_not.mp hmatch⟩, Nat.lt_of_not_le hroom⟩
      · cases h

theorem windowLaw_takeSegment {s : State} (h : s.window.Law) (b : SegmentBody) : (s.takeSegment b).window.Law := by
  unfold State.takeSegment
  split
  · exact h
  · unfold State.refuseSegment
    dsimp only
    split
    all_goals
      simp only [State.raise_frame, State.setWindow_window]
      exact windowLaw_infix h (List.infix_refl _) (bump16_le _) h.runouts
  · next g hg =>
    obtain ⟨hwf, htail⟩ := judge_appended hg
    have hroom : s.window.segments.length < 64 := by
      cases hl : s.window.segments.getLast? with
      | none => simp [List.getLast?_eq_none_iff.mp hl]
      | some tail => exact (htail tail hl).2
    refine ⟨?_, ?_, linked_append h.linked fun tail ht => (htail tail ht).1, h.refusals, h.runouts⟩
    · simp only [State.appendSegment, State.setWindow_window, List.length_append, List.length_singleton]
      omega
    · intro x hx
      rcases List.mem_append.mp hx with hx | hx
      · exact h.wellFormed x hx
      · obtain rfl := List.mem_singleton.mp hx
        exact hwf

theorem windowLaw_takeEnumerate {s : State} (h : s.window.Law) (p : Port) (n : Byte) :
    (s.takeEnumerate p n).window.Law := by
  have hchanged : s.changeHead.window.Law := windowLaw_withdraw h .all 0
  have hrenumbered : (s.renumber p n.toNat).window.Law := by
    unfold State.renumber
    dsimp only
    (repeat' split)
    any_goals simpa using h
    all_goals simpa using hchanged
  unfold State.takeEnumerate
  (repeat' split)
  any_goals simpa using h
  all_goals exact hrenumbered

theorem windowLaw_takeCommand {s : State} (h : s.window.Law) (tag : Half) (code : Byte) :
    (s.takeCommand tag code).window.Law := by
  unfold State.takeCommand
  split
  case h_5 =>
    unfold State.takeReset
    (repeat' split)
    any_goals simpa using h
    all_goals exact windowLaw_initial
  all_goals simpa using h

theorem windowLaw_actOn {s : State} (h : s.window.Law) (p : Port) (x : Telegram) : (actOn p x s).window.Law := by
  rcases hb : x.body with _ | b
  · simpa [actOn, hb] using h
  rw [actOn_of_body hb]
  cases b with
  | segment b => exact windowLaw_takeSegment h b
  | withdraw g id =>
    show (s.takeWithdraw g id).window.Law
    unfold State.takeWithdraw
    split
    · exact h
    · exact windowLaw_withdraw h _ _
  | enumerate n => exact windowLaw_takeEnumerate h p n
  | command c => exact windowLaw_takeCommand h x.tag c
  | _ => simpa [actOnBody] using h

theorem windowLaw_exec {c : Instr} {s t : State} (ht : exec c s = .next t) (h : s.window.Law) : t.window.Law :=
  exec_keeps (P := fun s => s.window.Law) (fun _ _ _ h => h) (fun _ _ _ => windowLaw_initial)
    (fun _ p x _ _ h => windowLaw_actOn h p x) (fun _ h => windowLaw_expirePeriod h) (fun _ _ _ _ h => by simpa using h)
    (fun _ _ _ _ h => by simpa using h) (fun _ _ _ _ _ _ h => by simpa using h) (fun _ _ _ h => by simpa using h)
    (fun _ _ h => by simpa using h) (fun _ _ h => by simpa using h) (fun _ _ h => by simpa using h) c s t ht h

/-- Settles O24. -/
theorem stepsKeepTheWindowLaw : Obligations.StepsKeepTheWindowLaw := by
  intro s t h hlaw
  refine step_keeps (P := fun s => s.window.Law) (fun _ _ h => h) (fun s h => ?tick) (fun _ _ _ => windowLaw_exec) h hlaw
  obtain ⟨-, e⟩ | ⟨-, -, e⟩ | ⟨c, cs, -, -, e⟩ := tick_cases s <;> rwa [e]

/-! ## The record of a SEGMENT telegram (R9) -/

theorem handOf_eq_some_iff (b : Byte) (x : Hand) : handOf b = some x ↔ x.code = b := by
  have hcodes : ∀ b : Byte, ∀ n, b.toNat = n ↔ b = BitVec.ofNat 8 n ∧ n < 256 := by
    intro b n
    constructor
    · rintro rfl
      exact ⟨by simp, b.isLt⟩
    · rintro ⟨rfl, hn⟩
      simpa using hn
  unfold handOf
  split
  · next h => rw [hcodes] at h; rw [h.1]; cases x <;> simp [Hand.code]
  · next h => rw [hcodes] at h; rw [h.1]; cases x <;> simp [Hand.code]
  · next h => rw [hcodes] at h; rw [h.1]; cases x <;> simp [Hand.code]
  · next h0 h1 h2 =>
    simp only [reduceCtorEq, false_iff]
    rintro rfl
    cases x
    · exact h0 rfl
    · exact h1 rfl
    · exact h2 rfl

theorem readProfile_eq_some_iff (cls hand cant : Byte) (p : Profile) :
    readProfile cls hand cant = some p ↔ p.cls = cls.toNat ∧ p.hand.code = hand ∧ p.cant = cant.toNat := by
  obtain ⟨pc, ph, pt⟩ := p
  simp only [readProfile, Option.map_eq_some_iff, handOf_eq_some_iff, Profile.mk.injEq]
  constructor
  · rintro ⟨x, hx, h1, rfl, h3⟩
    exact ⟨h1.symm, hx, h3.symm⟩
  · rintro ⟨h1, h2, h3⟩
    exact ⟨ph, h2, h1.symm, rfl, h3.symm⟩

/-- A profile read from its three bytes is well-formed exactly when they are those of a well-formed profile. -/
theorem profile_wf_iff (cls hand cant : Byte) :
    profileBytesOk cls hand cant ↔ ∃ p, readProfile cls hand cant = some p ∧ p.wf = true := by
  simp only [readProfile_eq_some_iff]
  constructor
  · rintro (⟨h0, hh, ht⟩ | ⟨h1, h31, hh, ht⟩)
    · exact ⟨⟨cls.toNat, .none, cant.toNat⟩, ⟨rfl, BitVec.eq_of_toNat_eq hh.symm, rfl⟩, by simp [Profile.wf, h0, ht]⟩
    · rcases hh with hh | hh
      · exact ⟨⟨cls.toNat, .left, cant.toNat⟩, ⟨rfl, BitVec.eq_of_toNat_eq hh.symm, rfl⟩, by simp [Profile.wf, *]⟩
      · exact ⟨⟨cls.toNat, .right, cant.toNat⟩, ⟨rfl, BitVec.eq_of_toNat_eq hh.symm, rfl⟩, by simp [Profile.wf, *]⟩
  · rintro ⟨⟨pc, ph, pt⟩, ⟨rfl, rfl, rfl⟩, hwf⟩
    cases ph <;> simp [Profile.wf, profileBytesOk, Hand.code] at hwf ⊢ <;> omega

end Sys2Proof.Machine
end

section
/-! PROOFS. SEGMENT and WITHDRAW (R7 to R16), and the coverage of the window (R20). -/

namespace Sys2Proof.Machine

/-! ## A broadcast forwarded unchanged -/

/-- Only an ENUMERATE is changed as it is forwarded (R149). -/
theorem forwardedForm_of_kind (n : NodeState) (b : Body) (a : Arrival) (h : b.kind ≠ kindEnumerate) :
    forwardedForm n (b.telegram a) = b.telegram a := by
  have : isEnumerate (b.telegram a) = false := by
    simp [isEnumerate, Body.telegram, Arrival.telegram, h]
  simp [forwardedForm, this]

/-- Forwarding after an act that leaves the Trunk Unit alone. -/
theorem thenForwards_of_trunk {s u : State} {p : Port} (h : u.trunk = s.trunk.endReceiving p) (x : Telegram) :
    u.thenForwards p x = { u with trunk := s.passedOn p x } := by
  rw [State.thenForwards, h]
  rfl

theorem exec_segment_broadcast {s : State} {a : Arrival} (h : s.Broadcasts a) (b : SegmentBody) :
    exec (.segment a b) s = .next
      (((s.taken a.port).takeSegment b).thenForwards a.port ((Body.segment b).telegram a)) := by
  rw [exec_broadcast h (.segment b) rfl rfl rfl, forwardedForm_of_kind _ (.segment b) _ (show kindSegment ≠ kindEnumerate by decide)]
  rfl

/-! ## The fields of the record (R9) -/

theorem byte_toNat_eq_iff (b : Byte) {n : Nat} (hn : n < 256) : b.toNat = n ↔ b = BitVec.ofNat 8 n := by
  constructor
  · rintro rfl
    simp
  · rintro rfl
    simpa using hn

theorem readKind_eq_some_iff (b : SegmentBody) (k : SegmentKind) :
    readKind b = some k ↔
      (b.kind = 0 ∧ k = .constant) ∨
      (b.kind = 1 ∧ ∃ e, readProfile b.exitClass b.exitHand b.exitCant = some e ∧ k = .spiral e) := by
  unfold readKind
  split
  · next h =>
    rw [byte_toNat_eq_iff _ (by omega)] at h
    simp [h, eq_comm]
  · next h =>
    rw [byte_toNat_eq_iff _ (by omega)] at h
    rw [h, Option.map_eq_some_iff]
    refine ⟨fun ⟨e, he, hk⟩ => .inr ⟨rfl, e, he, hk.symm⟩, ?_⟩
    rintro (⟨h0, -⟩ | ⟨-, e, he, rfl⟩)
    · exact absurd h0 (by decide)
    · exact ⟨e, he, rfl⟩
  · next h0 h1 =>
    simp only [reduceCtorEq, false_iff, not_or, not_and]
    exact ⟨fun h => absurd (h ▸ rfl) h0, fun h => absurd (h ▸ rfl) h1⟩

/-- The record of a SEGMENT telegram with a kind and an entry profile read. -/
def recordOf (b : SegmentBody) (kind : SegmentKind) (entry : Profile) : Segment where
  id := b.id.toNat
  start := b.start.toNat
  length := b.length.toNat
  kind := kind
  entry := entry
  tiltLimit := if b.flags.getLsbD 0 then some b.tiltLimit.toNat else none
  rateLimit := if b.flags.getLsbD 1 then some b.rateLimit.toNat else none
  inhibit := b.flags.getLsbD 2

theorem segmentRecord_eq_some_iff (b : SegmentBody) (g : Segment) :
    segmentRecord b = some g ↔
      ∃ kind entry, readKind b = some kind ∧ readProfile b.entryClass b.entryHand b.entryCant = some entry ∧
        g = recordOf b kind entry := by
  unfold segmentRecord
  split
  · next kind entry hk he =>
    constructor
    · intro h
      exact ⟨kind, entry, hk, he, (Option.some.inj h).symm⟩
    · rintro ⟨kind', entry', hk', he', rfl⟩
      cases hk.symm.trans hk'
      cases he.symm.trans he'
      rfl
  · next hno =>
    simp only [reduceCtorEq, false_iff]
    rintro ⟨kind, entry, hk, he, -⟩
    exact hno kind entry hk he

/-- The limits of a record are in range exactly when their fields are, where the flags have them present. -/
theorem limit_all_iff (present : Bool) (n : Nat) (p : Nat → Bool) :
    (if present then some n else none).all p = true ↔ (present = true → p n = true) := by
  cases present <;> simp

theorem exitProfile_wf_iff {b : SegmentBody} {kind : SegmentKind} (hk : readKind b = some kind) (entry : Profile)
    (he : entry.wf = true) :
    (recordOf b kind entry).exit.wf = true ↔ (b.kind.toNat = 1 → profileBytesOk b.exitClass b.exitHand b.exitCant) := by
  rw [readKind_eq_some_iff] at hk
  rcases hk with ⟨h0, rfl⟩ | ⟨h1, e, hr, rfl⟩
  · simp [Segment.exit, recordOf, he, h0]
  · rw [profile_wf_iff]
    simp [Segment.exit, recordOf, hr, h1]

/-- A record read is well-formed exactly when no test of R9 applies, its profiles being those read. -/
theorem recordOf_wf_iff {b : SegmentBody} {kind : SegmentKind} {entry : Profile} (hk : readKind b = some kind)
    (hp : readProfile b.entryClass b.entryHand b.entryCant = some entry) :
    (recordOf b kind entry).wf = true ↔ segmentInRange b := by
  have hkind : b.kind.toNat = 0 ∨ b.kind.toNat = 1 := by
    rw [readKind_eq_some_iff] at hk
    rcases hk with ⟨h, -⟩ | ⟨h, -⟩ <;> simp [h]
  have hentry : entry.wf = true ↔ profileBytesOk b.entryClass b.entryHand b.entryCant := by
    rw [profile_wf_iff]
    simp [hp]
  have hexit := exitProfile_wf_iff hk entry
  have hid := b.id.isLt
  have hlen := b.length.isLt
  have htilt := limit_all_iff (b.flags.getLsbD 0) b.tiltLimit.toNat (fun l => decide (l ≤ 100))
  have hrate := limit_all_iff (b.flags.getLsbD 1) b.rateLimit.toNat (fun l => decide (5 ≤ l ∧ l ≤ 100))
  simp only [decide_eq_true_eq] at htilt hrate
  simp only [Segment.wf, Bool.and_eq_true, decide_eq_true_eq]
  constructor
  · rintro ⟨⟨⟨⟨⟨⟨⟨-, hs⟩, h1⟩, -⟩, hwf⟩, hx⟩, ht⟩, hr⟩
    exact ⟨Nat.ne_zero_of_lt h1, hkind, hs, hentry.mp hwf, (hexit hwf).mp hx, htilt.mp ht, hrate.mp hr⟩
  · rintro ⟨h1, -, hs, hwf, hx, ht, hr⟩
    have hwf := hentry.mpr hwf
    exact ⟨⟨⟨⟨⟨⟨⟨Nat.le_of_lt_succ hid, hs⟩, Nat.one_le_iff_ne_zero.mpr h1⟩, Nat.le_of_lt_succ hlen⟩, hwf⟩,
      (hexit hwf).mpr hx⟩, htilt.mpr ht⟩, hrate.mpr hr⟩

theorem record_wf_iff {b : SegmentBody} {g : Segment} (h : segmentRecord b = some g) :
    g.wf = true ↔ segmentInRange b := by
  obtain ⟨kind, entry, hk, hp, rfl⟩ := (segmentRecord_eq_some_iff b g).mp h
  exact recordOf_wf_iff hk hp

/-- A telegram to which no test of R9 applies has a record. -/
theorem exists_record {b : SegmentBody} (h : segmentInRange b) : ∃ g, segmentRecord b = some g := by
  obtain ⟨-, hkind, -, hentry, hexit, -, -⟩ := h
  obtain ⟨entry, hp, -⟩ := (profile_wf_iff _ _ _).mp hentry
  have hread : ∃ kind, readKind b = some kind := by
    simp only [readKind_eq_some_iff]
    rcases hkind with h0 | h1
    · exact ⟨.constant, .inl ⟨BitVec.eq_of_toNat_eq h0, rfl⟩⟩
    · obtain ⟨e, he, -⟩ := (profile_wf_iff _ _ _).mp (hexit h1)
      exact ⟨.spiral e, .inr ⟨BitVec.eq_of_toNat_eq h1, e, he, rfl⟩⟩
  obtain ⟨kind, hk⟩ := hread
  exact ⟨_, (segmentRecord_eq_some_iff b _).mpr ⟨kind, entry, hk, hp, rfl⟩⟩

/-- Settles O19. -/
theorem segmentFieldsDecideMalformed : Obligations.SegmentFieldsDecideMalformed := by
  intro b
  refine ⟨⟨fun h => ?_, fun ⟨g, hg, hwf⟩ => (record_wf_iff hg).mp hwf⟩, fun g hg => ?fields⟩
  · obtain ⟨g, hg⟩ := exists_record h
    exact ⟨g, hg, (record_wf_iff hg).mpr h⟩
  case fields =>
    obtain ⟨kind, entry, hk, hp, rfl⟩ := (segmentRecord_eq_some_iff b g).mp hg
    obtain ⟨hcls, hhand, hcant⟩ := (readProfile_eq_some_iff _ _ _ _).mp hp
    rw [readKind_eq_some_iff] at hk
    refine ⟨rfl, rfl, rfl, rfl, ?_, hcls, hhand, hcant, fun h1 => ?spiral, fun h0 => ?constant, rfl, rfl, rfl⟩
    · rcases hk with ⟨h0, rfl⟩ | ⟨h1, e, -, rfl⟩
      · simp [recordOf, h0]
      · simp [recordOf, h1]
    case spiral =>
      rcases hk with ⟨h0, -⟩ | ⟨-, e, he, rfl⟩
      · rw [h1] at h0
        cases h0
      · exact (readProfile_eq_some_iff _ _ _ _).mp he
    case constant =>
      rcases hk with ⟨-, rfl⟩ | ⟨h1, -⟩
      · rfl
      · rw [h0] at h1
        cases h1

/-! ## Admission (TABLE 1-III) -/

theorem judge_repeated {w : RouteWindow} {b : SegmentBody} {g : Segment} (hg : segmentRecord b = some g)
    (ht : w.tail? = some g) : w.judge b = .repeated := by
  have ht : w.segments.getLast? = some g := ht
  simp [RouteWindow.judge, hg, ht]

/-- A record in range that is not the tail is checked against the tail. -/
theorem judge_checked {w : RouteWindow} {b : SegmentBody} {g : Segment} (hg : segmentRecord b = some g)
    (hr : segmentInRange b) (ht : w.tail? ≠ some g) : w.judge b = w.checkTail g := by
  have ht : ¬w.segments.getLast? = some g := ht
  simp [RouteWindow.judge, hg, ht, (record_wf_iff hg).mpr hr]

theorem checkTail_of_tail {w : RouteWindow} {tail : Segment} (h : w.tail? = some tail) (g : Segment) :
    w.checkTail g =
      if g.id ≤ tail.id then .refused .order
      else if g.start ≠ tail.stop then .refused .gap
      else if g.entry ≠ tail.exit then .refused .mismatch
      else if 64 ≤ w.segments.length then .refused .full
      else .appended g := by
  have h : w.segments.getLast? = some tail := h
  simp only [RouteWindow.checkTail, h]
  rfl

theorem judge_of_fits {w : RouteWindow} {b : SegmentBody} {g : Segment} (hg : segmentRecord b = some g)
    (hr : segmentInRange b) (hf : ∀ tail, w.tail? = some tail → tail.follows g) (hl : w.segments.length < 64) :
    w.judge b = .appended g := by
  have ht : w.tail? ≠ some g := fun h => Nat.lt_irrefl _ (hf g h).1
  rw [judge_checked hg hr ht]
  cases hw : w.tail? with
  | none =>
    have hw : w.segments.getLast? = none := hw
    simp [RouteWindow.checkTail, hw]
  | some tail =>
    obtain ⟨hid, hstart, hentry⟩ := hf tail hw
    rw [checkTail_of_tail hw, if_neg (by omega), if_neg (not_not_intro hstart), if_neg (not_not_intro hentry),
      if_neg (by omega)]

/-- Settles O18. -/
theorem segmentIsAppendedOrRepeated : Obligations.SegmentIsAppendedOrRepeated := by
  intro a b s g h hg
  rw [exec_segment_broadcast h]
  refine ⟨fun ht => ?_, fun hr hf hl => ?_⟩
  · have hj : (s.taken a.port).window.judge b = .repeated := judge_repeated hg ht
    rw [State.takeSegment, hj]
    rfl
  · have hj : (s.taken a.port).window.judge b = .appended g := judge_of_fits hg hr hf hl
    rw [State.takeSegment, hj]
    rfl

/-- The check of TABLE 1-III that applies first gives the refusal. -/
theorem judge_of_refuses {w : RouteWindow} {b : SegmentBody} {r : RefusalReason} (h : w.Refuses b r) :
    w.judge b = .refused r := by
  have hne : ∀ {g tail : Segment}, w.tail? = some tail → tail ≠ g → w.tail? ≠ some g := by
    intro g tail ht hg e
    exact hg (Option.some.inj (ht.symm.trans e))
  have hne_id : ∀ {g tail : Segment}, tail.id < g.id → tail ≠ g := by
    rintro g _ hlt rfl
    exact Nat.lt_irrefl _ hlt
  cases r with
  | malformed =>
    obtain ⟨hr, hnot⟩ := h
    cases hg : segmentRecord b with
    | none => simp [RouteWindow.judge, hg]
    | some g =>
      have ht : ¬w.segments.getLast? = some g := hnot g hg
      have hwf : g.wf = false := by
        rw [Bool.eq_false_iff, Ne, record_wf_iff hg]
        exact hr
      simp [RouteWindow.judge, hg, ht, hwf]
  | order =>
    obtain ⟨g, tail, hg, hr, ht, hdiff, hid⟩ := h
    rw [judge_checked hg hr (hne ht hdiff), checkTail_of_tail ht, if_pos hid]
  | gap =>
    obtain ⟨g, tail, hg, hr, ht, hid, hgap⟩ := h
    rw [judge_checked hg hr (hne ht (hne_id hid)), checkTail_of_tail ht, if_neg (by omega), if_pos hgap]
  | mismatch =>
    obtain ⟨g, tail, hg, hr, ht, hid, hstart, hdiff⟩ := h
    rw [judge_checked hg hr (hne ht (hne_id hid)), checkTail_of_tail ht, if_neg (by omega),
      if_neg (not_not_intro hstart), if_pos hdiff]
  | full =>
    obtain ⟨g, tail, hg, hr, ht, ⟨hid, hstart, hentry⟩, hfull⟩ := h
    rw [judge_checked hg hr (hne ht (hne_id hid)), checkTail_of_tail ht, if_neg (by omega),
      if_neg (not_not_intro hstart), if_neg (not_not_intro hentry), if_pos hfull]

/-- Settles O20. -/
theorem segmentIsRefused : Obligations.SegmentIsRefused := by
  intro a b s r h hr
  have hj : (s.taken a.port).window.judge b = .refused r := judge_of_refuses hr
  rw [exec_segment_broadcast h, State.takeSegment, hj]
  rfl

/-! ## Withdrawal (TABLE 1-IV) -/

theorem granularityOf_none {b : Byte} (h1 : b ≠ 1) (h2 : b ≠ 2) (h3 : b ≠ 3) : granularityOf b = none := by
  unfold granularityOf
  split
  · next h => exact absurd (BitVec.eq_of_toNat_eq h) h1
  · next h => exact absurd (BitVec.eq_of_toNat_eq h) h2
  · next h => exact absurd (BitVec.eq_of_toNat_eq h) h3
  · rfl

theorem exec_withdraw_broadcast {s : State} {a : Arrival} (h : s.Broadcasts a) (gran : Byte) (id : Half) :
    exec (.withdraw a gran id) s = .next
      (((s.taken a.port).takeWithdraw gran id).thenForwards a.port ((Body.withdraw gran id).telegram a)) := by
  rw [exec_broadcast h (.withdraw gran id) rfl rfl rfl,
    forwardedForm_of_kind _ (.withdraw gran id) _ (show kindWithdraw ≠ kindEnumerate by decide)]
  rfl

/-- A withdrawal that keeps some segments and performs a granularity, with its record and the telegram forwarded. -/
theorem exec_withdraw_of_kept {s : State} {a : Arrival} (h : s.Broadcasts a) {gran : Byte} {id : Half}
    {requested performed : Granularity} {kept : List Segment} {removed : Nat}
    (hg : granularityOf gran = some requested)
    (hw : withdrawal s.window.segments requested id.toNat = (kept, performed))
    (hn : s.window.segments.length - kept.length = removed) :
    exec (.withdraw a gran id) s = .next
      { s with
        window := s.window.afterWithdrawal kept
          { requested := requested, id := withdrawalId requested id.toNat, performed := performed, removed := removed }
        trunk := s.forwarded a (.withdraw gran id) } := by
  have hwin : (s.taken a.port).window.withdraw requested id.toNat = s.window.afterWithdrawal kept
      { requested := requested, id := withdrawalId requested id.toNat, performed := performed, removed := removed } := by
    show s.window.withdraw requested id.toNat = _
    simp only [RouteWindow.withdraw, hw, hn]
    rfl
  rw [exec_withdraw_broadcast h, State.takeWithdraw, hg]
  simp only [hwin]
  rfl

theorem length_sub_filter_lt (gs : List Segment) (n : Nat) :
    gs.length - (gs.filter (fun g => decide (g.id < n))).length = gs.countP (fun g => decide (n ≤ g.id)) := by
  have hsplit := gs.length_eq_countP_add_countP (fun g => decide (g.id < n))
  have hnot : (fun g : Segment => decide (n ≤ g.id)) = (fun g => decide ¬(decide (g.id < n)) = true) := by
    funext g
    simp
  rw [hnot, ← List.countP_eq_length_filter]
  omega

theorem withdrawal_from_none {gs : List Segment} {n : Nat} (h : ∀ g ∈ gs, g.id < n) :
    withdrawal gs .from n = (gs, .none) := by
  have : gs.all (fun g => decide (g.id < n)) = true := by simpa using h
  simp [withdrawal, this]

theorem withdrawal_from_all {gs : List Segment} {n : Nat} (hne : gs ≠ []) (h : ∀ g ∈ gs, n ≤ g.id) :
    withdrawal gs .from n = ([], .all) := by
  have hall : gs.all (fun g => decide (n ≤ g.id)) = true := by simpa using h
  have hnot : ¬gs.all (fun g => decide (g.id < n)) = true := by
    obtain ⟨g, hg⟩ := List.exists_mem_of_ne_nil gs hne
    simp only [List.all_eq_true, decide_eq_true_eq]
    exact fun hlt => absurd (hlt g hg) (Nat.not_lt.mpr (h g hg))
  simp only [withdrawal, if_neg hnot, if_pos hall]

theorem withdrawal_from_some {gs : List Segment} {n : Nat} (hge : ∃ g ∈ gs, n ≤ g.id) (hlt : ∃ g ∈ gs, g.id < n) :
    withdrawal gs .from n = (gs.filter (fun g => decide (g.id < n)), .from) := by
  obtain ⟨g, hg, hng⟩ := hge
  obtain ⟨k, hk, hkn⟩ := hlt
  have h1 : ¬gs.all (fun g => decide (g.id < n)) = true := by
    simp only [List.all_eq_true, decide_eq_true_eq]
    exact fun h => absurd (h g hg) (Nat.not_lt.mpr hng)
  have h2 : ¬gs.all (fun g => decide (n ≤ g.id)) = true := by
    simp only [List.all_eq_true, decide_eq_true_eq]
    exact fun h => absurd (h k hk) (Nat.not_le.mpr hkn)
  simp only [withdrawal, if_neg h1, if_neg h2]

theorem withdrawal_one_tail {gs : List Segment} {n : Nat} {tail : Segment} (h : gs.getLast? = some tail)
    (hn : tail.id = n) : withdrawal gs .one n = (gs.dropLast, .one) := by
  simp [withdrawal, h, hn]

theorem withdrawal_one_from {gs : List Segment} {n : Nat} (hl : linked gs) (h : ∃ g ∈ gs, g.id = n)
    (ht : ∀ tail, gs.getLast? = some tail → tail.id ≠ n) :
    withdrawal gs .one n = (gs.filter (fun g => decide (g.id < n)), .from) := by
  have h1 : ¬gs.getLast?.any (fun g => decide (g.id = n)) = true := by
    simp only [Option.any_eq_true, decide_eq_true_eq]
    rintro ⟨tail, htail, hid⟩
    exact ht tail htail hid
  have h2 : gs.any (fun g => decide (g.id = n)) = true := by simpa using h
  simp only [withdrawal, if_neg h1, if_pos h2, takeWhile_id_ne (pairwise_id_of_linked hl) h]

theorem withdrawal_one_none {gs : List Segment} {n : Nat} (h : ∀ g ∈ gs, g.id ≠ n) :
    withdrawal gs .one n = (gs, .none) := by
  have h1 : ¬gs.getLast?.any (fun g => decide (g.id = n)) = true := by
    simp only [Option.any_eq_true, decide_eq_true_eq]
    rintro ⟨tail, htail, hid⟩
    exact h tail (List.mem_of_getLast? htail) hid
  have h2 : ¬gs.any (fun g => decide (g.id = n)) = true := by simpa using h
  simp only [withdrawal, if_neg h1, if_neg h2]

/-- Settles O21, row by row of TABLE 1-IV. -/
theorem withdrawRemovesByTable : Obligations.WithdrawRemovesByTable := by
  intro a gran id s h hl
  refine ⟨?all, ?fromNone, ?fromAll, ?fromSome, ?oneTail, ?oneFrom, ?oneNone, fun h1 h2 h3 => ?undefined⟩
  case all =>
    rintro rfl
    exact exec_withdraw_of_kept h (by decide : granularityOf 3 = some .all) rfl (by simp)
  case fromNone =>
    rintro rfl hlt
    exact exec_withdraw_of_kept h (by decide : granularityOf 2 = some .from) (withdrawal_from_none hlt) (by simp)
  case fromAll =>
    rintro rfl hne hge
    exact exec_withdraw_of_kept h (by decide : granularityOf 2 = some .from) (withdrawal_from_all hne hge) (by simp)
  case fromSome =>
    rintro rfl hge hlt
    exact exec_withdraw_of_kept h (by decide : granularityOf 2 = some .from) (withdrawal_from_some hge hlt)
      (length_sub_filter_lt _ _)
  case oneTail =>
    rintro rfl ⟨tail, ht, hid⟩
    have hpos : 0 < s.window.segments.length := List.length_pos_of_mem (List.mem_of_getLast? ht)
    refine exec_withdraw_of_kept h (by decide : granularityOf 1 = some .one) (withdrawal_one_tail ht hid) ?_
    rw [List.length_dropLast]
    omega
  case oneFrom =>
    rintro rfl hmem ht
    exact exec_withdraw_of_kept h (by decide : granularityOf 1 = some .one) (withdrawal_one_from hl hmem ht)
      (length_sub_filter_lt _ _)
  case oneNone =>
    rintro rfl hne
    exact exec_withdraw_of_kept h (by decide : granularityOf 1 = some .one) (withdrawal_one_none hne) (by simp)
  case undefined =>
    rw [exec_withdraw_broadcast h, State.takeWithdraw, granularityOf_none h1 h2 h3]
    rfl

/-! ## Coverage (R20) -/

theorem covers_iff (g : Segment) (x : Int) : g.covers x = true ↔ (g.start : Int) ≤ x ∧ x < (g.stop : Int) := by
  simp [Segment.covers]

/-- Of segments that lie one after another, one at most covers a point, and it is the one selected. -/
theorem find_covers {gs : List Segment} (h : gs.Pairwise (fun g h : Segment => g.stop ≤ h.start)) (x : Int)
    (g : Segment) : gs.find? (fun k => k.covers x) = some g ↔ g ∈ gs ∧ g.covers x = true := by
  refine ⟨fun hf => ⟨List.mem_of_find?_eq_some hf, List.find?_some (p := fun k : Segment => k.covers x) hf⟩, ?_⟩
  rintro ⟨hg, hc⟩
  induction gs with
  | nil => simp at hg
  | cons k gs ih =>
    obtain ⟨hk, hgs⟩ := List.pairwise_cons.mp h
    rcases List.mem_cons.mp hg with rfl | hg
    · simp [hc]
    · have hnot : ¬k.covers x = true := by
        have hbefore := hk g hg
        rw [covers_iff] at hc ⊢
        omega
      exact (List.find?_cons_of_neg (p := fun k : Segment => k.covers x) hnot).trans (ih hgs hg)

/-- Linked segments cover the interval from the first's start up to the last's end. -/
theorem exists_covers_iff {gs : List Segment} (h : linked gs) (x : Int) :
    (∃ g ∈ gs, g.covers x = true) ↔
      ∃ head tail, gs.head? = some head ∧ gs.getLast? = some tail ∧ (head.start : Int) ≤ x ∧ x < (tail.stop : Int) := by
  induction gs with
  | nil => simp
  | cons g gs ih =>
    cases gs with
    | nil => simp [covers_iff]
    | cons k rest =>
      obtain ⟨⟨-, hstart, -⟩, hrest⟩ := h
      have hlast : (g :: k :: rest).getLast? = (k :: rest).getLast? := List.getLast?_cons_cons
      have hcons : (∃ x' ∈ g :: k :: rest, x'.covers x = true) ↔ g.covers x = true ∨ ∃ x' ∈ k :: rest, x'.covers x = true := by
        simp only [List.mem_cons, or_and_right, exists_or, exists_eq_left]
      rw [hcons, ih hrest, hlast, covers_iff]
      obtain ⟨tail, htail⟩ : ∃ tail, (k :: rest).getLast? = some tail := ⟨_, List.getLast?_eq_some_getLast (by simp)⟩
      have hafter : k.start ≤ tail.stop := by
        have hmem := List.mem_of_getLast? htail
        rcases List.mem_cons.mp hmem with rfl | hmem
        · exact Nat.le_add_right _ _
        · have hk := (List.pairwise_cons.mp (pairwise_stop_of_linked hrest)).1 tail hmem
          simp only [Segment.stop] at hk ⊢
          omega
      have hstop : g.start ≤ g.stop := Nat.le_add_right _ _
      simp only [htail, List.head?_cons, Option.some.injEq, exists_eq_left', exists_and_left]
      omega

/-- Settles O22. -/
theorem windowCoversOneInterval : Obligations.WindowCoversOneInterval := by
  intro w x h
  have hat := find_covers (pairwise_stop_of_linked h.linked) x
  refine ⟨?_, fun g => (hat g).trans (and_congr_right fun _ => covers_iff g x)⟩
  refine Iff.trans ?_ (exists_covers_iff h.linked x)
  simp only [RouteWindow.covered, RouteWindow.at, Option.isSome_iff_exists]
  exact exists_congr hat

end Sys2Proof.Machine
end

section
/-! PROOFS. The schedule banks (chapter 2): their law through every step, the checks before a request, and BANK SWAP. -/

namespace Sys2Proof.Machine

/-! ## The checks 1 to 3 of TABLE 2-II -/

section
variable (t : Tables) (act : BankName → TableAnswer)

theorem request_malformed {bank : Byte} (h1 : bank ≠ 1) (h2 : bank ≠ 2) :
    t.request bank act = t.refuse resultMalformed none := by
  have hnone : bankOf bank = none := by
    unfold bankOf
    split
    · next h => exact absurd (BitVec.eq_of_toNat_eq h) h1
    · next h => exact absurd (BitVec.eq_of_toNat_eq h) h2
    · rfl
  simp [Tables.request, hnone]

theorem request_busy (b : BankName) (hp : t.swapPending = true) :
    t.request b.code act = t.refuse resultBusy none := by
  simp [Tables.request, bankOf_code, hp]

theorem request_active (hp : t.swapPending = false) :
    t.request t.active.code act = t.refuse resultActiveBank none := by
  simp [Tables.request, bankOf_code, hp]

end

theorem exists_bank_of_code {bank : Byte} (h : bank = 1 ∨ bank = 2) : ∃ b : BankName, bank = b.code := by
  rcases h with rfl | rfl
  · exact ⟨.A, rfl⟩
  · exact ⟨.B, rfl⟩

/-- The four requests that name a bank are answered by `Tables.request`. -/
theorem exec_bankRequest {a : Arrival} {bank : Byte} {s : State} {c : Instr} {kind : Byte} (h : s.Delivers a)
    (hc : (∃ ts, c = .tableWrite a bank ts ∧ kind = 17 ∧ 1 ≤ ts.length ∧ ts.length ≤ 7) ∨
      (∃ f vs, c = .tableThresholds a bank f vs ∧ kind = 18 ∧ 1 ≤ vs.length ∧ vs.length ≤ 15) ∨
      (∃ cls trim, c = .tableTrim a bank cls trim ∧ kind = 19) ∨ (c = .bankVerify a bank ∧ kind = 20)) :
    ∃ act, exec c s = .next (s.answered a kind (s.tables.request bank act)) := by
  obtain ⟨ts, rfl, rfl, h1, h7⟩ | ⟨f, vs, rfl, rfl, h1, h15⟩ | ⟨cls, trim, rfl, rfl⟩ | ⟨rfl, rfl⟩ := hc
  · exact ⟨_, exec_tableWrite_delivered h bank h1 h7⟩
  · exact ⟨_, exec_tableThresholds_delivered h bank f h1 h15⟩
  · exact ⟨_, exec_tableTrim_delivered h bank cls trim⟩
  · exact ⟨_, exec_bankVerify_delivered h bank⟩

/-- Settles O25. -/
theorem tableRequestsAreRefusedInOrder : Obligations.TableRequestsAreRefusedInOrder := by
  intro a bank s c kind h hc
  obtain ⟨act, hexec⟩ := exec_bankRequest h hc
  rw [hexec]
  refine ⟨fun h1 h2 => ?_, fun hb hp => ?_, fun hb hp => ?_⟩
  · rw [request_malformed _ _ h1 h2]
    rfl
  · obtain ⟨b, rfl⟩ := exists_bank_of_code hb
    rw [request_busy _ _ b hp]
    rfl
  · rw [hb, request_active _ _ hp]
    rfl

/-! ## BANK SWAP (R37) -/

/-- Settles O30. -/
theorem bankSwapIsRequested : Obligations.BankSwapIsRequested := by
  intro a s h
  have hexec : exec (.bankSwap a) s = .next (s.answered a 21 s.tables.swap) :=
    event_tableRequest s a .bankSwap Tables.swap h rfl rfl
  rw [hexec]
  refine ⟨fun hp => ?busy, fun hp hs => ?empty, fun hp hs => ?loading, fun hp hs => ?pending⟩
  case busy =>
    rw [Tables.swap, if_pos hp]
    rfl
  case empty =>
    simp only [Tables.swap, hp, hs]
    rfl
  case loading =>
    simp only [Tables.swap, hp, hs]
    rfl
  case pending =>
    simp only [Tables.swap, hp, hs]
    rfl

/-! ## The law of a bank through a write (R27, R29) -/

theorem bankLaw_initial : Bank.initial.Law where
  rows := by simp [Bank.initial]
  columns := by simp [Bank.initial]
  entries := by simp [Bank.initial]
  thresholds := by simp [Bank.initial]
  speeds := by simp [Bank.initial]
  emptyZero := fun _ => by simp [Bank.initial]
  verified := by simp [Bank.initial]

/-- A bank that is LOADING meets its law by its shape and ranges alone. -/
theorem bankLaw_loading {b : Bank} (hr : b.rows.length = 32) (hc : ∀ r ∈ b.rows, r.length = 16)
    (he : ∀ r ∈ b.rows, ∀ e ∈ r, e ≤ 100) (ht : b.thresholds.length = 15) (hs : ∀ t ∈ b.thresholds, t ≤ 10000) :
    ({ b with state := .loading } : Bank).Law :=
  ⟨hr, hc, he, ht, hs, by simp, by simp⟩

/-- The shape and the ranges of a bank's rows. -/
def Bank.RowsOk (b : Bank) : Prop :=
  b.rows.length = 32 ∧ ∀ r ∈ b.rows, r.length = 16 ∧ ∀ e ∈ r, e ≤ 100

theorem rowsOk_of_law {b : Bank} (h : b.Law) : b.RowsOk := ⟨h.rows, fun r hr => ⟨h.columns r hr, h.entries r hr⟩⟩

/-- The row read by `Bank.row` is one of the bank's rows when there is one. -/
theorem row_ok {b : Bank} (h : b.RowsOk) {cls : Nat} (hc : cls < b.rows.length) :
    (b.row cls).length = 16 ∧ ∀ e ∈ b.row cls, e ≤ 100 := by
  have hrow : b.row cls = b.rows[cls] := by simp [Bank.row, hc]
  rw [hrow]
  exact h.2 _ (List.getElem_mem hc)

theorem rowsOk_setRow {b : Bank} (h : b.RowsOk) (cls : Nat) {r : List Nat}
    (hr : cls < b.rows.length → r.length = 16 ∧ ∀ e ∈ r, e ≤ 100) :
    ({ b with rows := b.rows.set cls r } : Bank).RowsOk := by
  refine ⟨by simpa using h.1, fun x hx => ?_⟩
  by_cases hc : cls < b.rows.length
  · rcases List.mem_or_eq_of_mem_set hx with hx | rfl
    · exact h.2 x hx
    · exact hr hc
  · rw [List.set_eq_of_length_le (Nat.le_of_not_lt hc)] at hx
    exact h.2 x hx

theorem rowsOk_write {b : Bank} (h : b.RowsOk) (cls band : Nat) {v : Nat} (hv : v ≤ 100) :
    (b.write cls band v).RowsOk := by
  refine rowsOk_setRow h cls fun hc => ?_
  obtain ⟨hlen, hle⟩ := row_ok h hc
  refine ⟨by simpa using hlen, fun e he => ?_⟩
  rcases List.mem_or_eq_of_mem_set he with he | rfl
  · exact hle e he
  · exact hv

theorem rowsOk_writeAll {b : Bank} (h : b.RowsOk) {ts : List Triplet} (hts : ∀ u ∈ ts, Triplet.outOfRange u = false) :
    (b.writeAll ts).RowsOk := by
  induction ts generalizing b with
  | nil => exact h
  | cons t ts ih =>
    obtain ⟨ht, hrest⟩ := List.forall_mem_cons.mp hts
    rw [writeAll_cons]
    refine ih (rowsOk_write h _ _ ?_) hrest
    rw [Bool.eq_false_iff, Ne, outOfRange_iff] at ht
    omega

theorem rowsOk_trimRow {b : Bank} (h : b.RowsOk) (cls : Nat) (trim : Int) : (b.trimRow cls trim).RowsOk := by
  refine rowsOk_setRow h cls fun hc => ⟨by simpa using (row_ok h hc).1, fun e he => ?_⟩
  obtain ⟨x, -, rfl⟩ := List.mem_map.mp he
  unfold trimEntry
  omega

theorem writeFrom_le {xs vs : List Nat} {m : Nat} (hxs : ∀ x ∈ xs, x ≤ m) (hvs : ∀ v ∈ vs, v ≤ m) (first : Nat) :
    ∀ x ∈ writeFrom xs first vs, x ≤ m := by
  induction vs generalizing xs first with
  | nil => exact hxs
  | cons v vs ih =>
    obtain ⟨hv, hrest⟩ := List.forall_mem_cons.mp hvs
    refine ih (fun x hx => ?_) hrest _
    rcases List.mem_or_eq_of_mem_set hx with hx | rfl
    · exact hxs x hx
    · exact hv

/-! ## The law of the tables through a request -/

theorem tablesLaw_initial : Tables.initial.Law := ⟨bankLaw_initial, bankLaw_initial, by simp [Tables.initial]⟩

theorem bankLaw_of_tables {t : Tables} (h : t.Law) (b : BankName) : (t.bank b).Law := by
  cases b with
  | A => exact h.bankA
  | B => exact h.bankB

/-- A bank stored while no swap is pending. -/
theorem tablesLaw_setBank {t : Tables} (h : t.Law) (hp : t.swapPending = false) (b : BankName) {x : Bank}
    (hx : x.Law) : (t.setBank b x).Law := by
  cases b with
  | A => exact ⟨hx, h.bankB, fun e => absurd (hp.symm.trans e) (by decide)⟩
  | B => exact ⟨h.bankA, hx, fun e => absurd (hp.symm.trans e) (by decide)⟩

/-- A request keeps the law when what it does to a bank it may change keeps it. -/
theorem tablesLaw_request {t : Tables} (h : t.Law) (bank : Byte) {act : BankName → TableAnswer}
    (hact : ∀ b, t.swapPending = false → (act b).tables.Law) : (t.request bank act).tables.Law := by
  unfold Tables.request
  split
  · exact h
  · next b _ =>
    split
    · exact h
    · next hp =>
      split
      · exact h
      · exact hact b (by simpa using hp)

theorem tablesLaw_write {t : Tables} (h : t.Law) (bank : Byte) (ts : List Triplet) : (t.write bank ts).tables.Law := by
  refine tablesLaw_request h bank fun b hp => ?_
  have hb := bankLaw_of_tables h b
  split
  · exact h
  · next hnone =>
    have hts : ∀ u ∈ ts, Triplet.outOfRange u = false := by
      simpa [firstPosition, List.findIdx?_eq_none_iff] using hnone
    obtain ⟨hrows, hin⟩ := rowsOk_writeAll (rowsOk_of_law hb) hts
    refine tablesLaw_setBank h hp b (bankLaw_loading hrows (fun r hr => (hin r hr).1) (fun r hr => (hin r hr).2) ?_ ?_)
    · rw [writeAll_thresholds]
      exact hb.thresholds
    · rw [writeAll_thresholds]
      exact hb.speeds

theorem tablesLaw_writeThresholds {t : Tables} (h : t.Law) (bank first : Byte) (vs : List Half) :
    (t.writeThresholds bank first vs).tables.Law := by
  refine tablesLaw_request h bank fun b hp => ?_
  have hb := bankLaw_of_tables h b
  split
  · exact h
  · split
    · exact h
    · next hnone =>
      have hvs : ∀ v ∈ vs.map (·.toNat), v ≤ 10000 := by
        simpa [firstPosition, List.findIdx?_eq_none_iff] using hnone
      refine tablesLaw_setBank h hp b (bankLaw_loading hb.rows hb.columns hb.entries ?_ ?_)
      · exact (writeFrom_length _ _ _).trans hb.thresholds
      · exact writeFrom_le hb.speeds hvs _

theorem tablesLaw_trim {t : Tables} (h : t.Law) (bank cls trim : Byte) : (t.trim bank cls trim).tables.Law := by
  refine tablesLaw_request h bank fun b hp => ?_
  have hb := bankLaw_of_tables h b
  split
  · exact h
  · split
    · exact h
    · obtain ⟨hrows, hin⟩ := rowsOk_trimRow (rowsOk_of_law hb) cls.toNat trim.toInt
      exact tablesLaw_setBank h hp b
        (bankLaw_loading hrows (fun r hr => (hin r hr).1) (fun r hr => (hin r hr).2) hb.thresholds hb.speeds)

theorem tablesLaw_verify {t : Tables} (h : t.Law) (bank : Byte) : (t.verify bank).tables.Law := by
  refine tablesLaw_request h bank fun b hp => ?_
  have hb := bankLaw_of_tables h b
  split
  · exact h
  · next hdefect =>
    exact tablesLaw_setBank h hp b
      ⟨hb.rows, hb.columns, hb.entries, hb.thresholds, hb.speeds, by simp, fun _ => hdefect⟩

theorem tablesLaw_swap {t : Tables} (h : t.Law) : t.swap.tables.Law := by
  unfold Tables.swap
  split
  · exact h
  · split
    · exact h
    · exact h
    · next hv => exact ⟨h.bankA, h.bankB, fun _ => hv⟩

/-! ## The law of the tables through every step -/

theorem answerTable_tables (s : State) (kind : Byte) (tag : Half) (x : TableAnswer) :
    (s.answerTable kind tag x).tables = x.tables := by
  simp [State.answerTable]

theorem tablesLaw_takeCommand {s : State} (h : s.tables.Law) (tag : Half) (code : Byte) :
    (s.takeCommand tag code).tables.Law := by
  unfold State.takeCommand
  split
  case h_5 =>
    unfold State.takeReset
    (repeat' split)
    any_goals simpa using h
    all_goals exact tablesLaw_initial
  all_goals simpa using h

theorem tablesLaw_actOn {s : State} (h : s.tables.Law) (p : Port) (x : Telegram) : (actOn p x s).tables.Law := by
  rcases hb : x.body with _ | b
  · simpa [actOn, hb] using h
  rw [actOn_of_body hb]
  cases b with
  | tableWrite bank ts => exact (answerTable_tables _ _ _ _).symm ▸ tablesLaw_write h bank ts
  | tableThresholds bank first vs => exact (answerTable_tables _ _ _ _).symm ▸ tablesLaw_writeThresholds h bank first vs
  | tableTrim bank cls trim => exact (answerTable_tables _ _ _ _).symm ▸ tablesLaw_trim h bank cls trim
  | bankVerify bank => exact (answerTable_tables _ _ _ _).symm ▸ tablesLaw_verify h bank
  | bankSwap => exact (answerTable_tables _ _ _ _).symm ▸ tablesLaw_swap h
  | command c => exact tablesLaw_takeCommand h x.tag c
  | _ => simpa [actOnBody] using h

theorem tablesLaw_expirePeriod {s : State} (h : s.tables.Law) : s.expirePeriod.tables.Law := by
  have hswapped : s.startPeriod.completeSwap.tables.Law := by
    unfold State.completeSwap
    split
    · exact ⟨h.bankA, h.bankB, by simp⟩
    · exact h
  simpa [State.expirePeriod] using hswapped

theorem tablesLaw_exec {c : Instr} {s t : State} (ht : exec c s = .next t) (h : s.tables.Law) : t.tables.Law :=
  exec_keeps (P := fun s => s.tables.Law) (fun _ _ _ h => h) (fun _ _ _ => tablesLaw_initial)
    (fun _ p x _ _ h => tablesLaw_actOn h p x) (fun _ h => tablesLaw_expirePeriod h) (fun _ _ _ _ h => by simpa using h)
    (fun _ _ _ _ h => by simpa using h) (fun _ _ _ _ _ _ h => by simpa using h) (fun _ _ _ h => by simpa using h)
    (fun _ _ h => by simpa using h) (fun _ _ h => by simpa using h) (fun _ _ h => by simpa using h) c s t ht h

/-- Settles O31. -/
theorem stepsKeepTheTablesLaw : Obligations.StepsKeepTheTablesLaw := by
  intro s t h hlaw
  refine step_keeps (P := fun s => s.tables.Law) (fun _ _ h => h) (fun s h => ?tick) (fun _ _ _ => tablesLaw_exec) h hlaw
  obtain ⟨-, e⟩ | ⟨-, -, e⟩ | ⟨c, cs, -, -, e⟩ := tick_cases s <;> rwa [e]

end Sys2Proof.Machine
end

section
/-! PROOFS. Parameters (R126, TABLE 6-VII) and odometry (chapter 3): their ranges through every step, the PARAM write, the
tach and the POSITION telegrams. -/

namespace Sys2Proof.Machine

/-! ## A parameter that takes a value -/

section
variable (p : Params) (v : Int) (i : ParamId)

@[simp] theorem get_set_same : (p.set v i).get i = v := by cases i <;> rfl
@[simp] theorem valid_set_same : (p.set v i).valid i = true := by cases i <;> rfl

theorem get_set_other {j : ParamId} (h : j ≠ i) : (p.set v i).get j = p.get j := by
  cases i <;> cases j <;> first | rfl | exact absurd rfl h

theorem valid_set_other {j : ParamId} (h : j ≠ i) : (p.set v i).valid j = p.valid j := by
  cases i <;> cases j <;> first | rfl | exact absurd rfl h
end

theorem inRange_iff (i : ParamId) (v : Int) : i.inRange v = true ↔ i.range.1 ≤ v ∧ v ≤ i.range.2 := by
  simp [ParamId.inRange]

theorem paramsLaw_set {p : Params} (h : p.Law) {i : ParamId} {v : Int} (hv : i.inRange v = true) : (p.set v i).Law := by
  intro j hj
  by_cases hji : j = i
  · subst hji
    rwa [get_set_same]
  · rw [valid_set_other _ _ _ hji] at hj
    rw [get_set_other _ _ _ hji]
    exact h j hj

theorem paramsLaw_invalidate {p : Params} (h : p.Law) : ({ p with carOffsetValid := false } : Params).Law := by
  intro i hi
  cases i with
  | carOffset => cases hi
  | _ => exact h _ hi

theorem paramsLaw_initial : Params.initial.Law := by
  intro i hi
  cases i <;> first | rfl | cases hi

/-! ## The law of the odometry through its operations -/

theorem odometryLaw_initial : Odometry.initial.Law :=
  ⟨by simp [Odometry.initial], by simp [Odometry.initial, Config.minPosition],
    by simp [Odometry.initial, Config.maxPosition], by simp [Odometry.initial], by simp [Odometry.initial],
    by simp [Odometry.initial], by simp [Odometry.initial], by simp [Odometry.initial]⟩

theorem odometryLaw_move {o : Odometry} (h : o.Law) (distance : Int) : (o.move distance).Law := by
  unfold Odometry.move
  dsimp only
  split
  · next hp =>
    refine { h with fraction := ?_, lower := hp.1, upper := hp.2 }
    show ((o.accumulated + distance) % 65536).toNat ≤ 65535
    omega
  · exact h

theorem odometryLaw_setPhase {o : Odometry} (h : o.Law) (pair : Option (Bool × Bool)) :
    ({ o with phase := pair } : Odometry).Law := { h with }

theorem odometryLaw_phaseFault {o : Odometry} (h : o.Law) :
    ({ o with phaseFaults := bump8 o.phaseFaults, phaseFaultTotal := bump16 o.phaseFaultTotal } : Odometry).Law where
  fraction := h.fraction
  lower := h.lower
  upper := h.upper
  speed := h.speed
  discrepancies := h.discrepancies
  phaseFaults := Nat.min_le_left _ _
  totals := ⟨h.totals.1, Nat.min_le_left _ _⟩
  staged := h.staged

theorem odometryLaw_heard {o : Odometry} (h : o.Law) (q : Option Half) {speed : Nat} (hs : speed ≤ 10000)
    (d : Direction) :
    ({ o with lastSequence := q, speed := speed, direction := d, phaseFaults := 0 } : Odometry).Law :=
  { h with speed := hs, phaseFaults := Nat.zero_le _ }

theorem odometryLaw_placed {o : Odometry} (h : o.Law) {q : Int} (hl : -6000 ≤ q) (hu : q ≤ 2000000000) :
    ({ o with pNode := q, fraction := 0, aligned := true, discrepancies := 0 } : Odometry).Law where
  fraction := Nat.zero_le _
  lower := by
    simp only [Config.minPosition]
    omega
  upper := by
    simp only [Config.maxPosition]
    omega
  speed := h.speed
  discrepancies := Nat.zero_le _
  phaseFaults := h.phaseFaults
  totals := h.totals
  staged := h.staged

theorem odometryLaw_jump {o : Odometry} (h : o.Law) (j : Option Int) : ({ o with lastFixJump := j } : Odometry).Law :=
  { h with }

theorem odometryLaw_staged {o : Odometry} (h : o.Law) {f : Option Int} (hf : ∀ x, f = some x → 1 ≤ x ∧ x ≤ 1048575) :
    ({ o with stagedFactor := f } : Odometry).Law := { h with staged := hf }

theorem odometryLaw_doubted {o : Odometry} (h : o.Law) :
    ({ o with discrepancies := bump8 o.discrepancies } : Odometry).Law :=
  { h with discrepancies := Nat.min_le_left _ _ }

theorem odometryLaw_unaligned {o : Odometry} (h : o.Law) :
    ({ o with aligned := false, discrepancies := 0 } : Odometry).Law := { h with discrepancies := Nat.zero_le _ }

theorem odometryLaw_stale {o : Odometry} (h : o.Law) :
    ({ o with stalePositions := bump16 o.stalePositions } : Odometry).Law :=
  { h with totals := ⟨Nat.min_le_left _ _, h.totals.2⟩ }

/-! ## Both laws through the commands -/

/-- The parameters and the odometry in their ranges. -/
def State.RangeLaw (s : State) : Prop := s.params.Law ∧ s.odometry.Law

theorem rangeLaw_of_eq {s t : State} (h : s.RangeLaw) (hp : t.params = s.params) (ho : t.odometry = s.odometry) :
    t.RangeLaw := by
  rwa [State.RangeLaw, hp, ho]

theorem rangeLaw_raise {s : State} (h : s.RangeLaw) (cls : FaultClass) (ch : Option Channel) (d : Nat) :
    (s.raise cls ch d).RangeLaw := rangeLaw_of_eq h (by simp) (by simp)

theorem rangeLaw_count {s : State} (h : s.RangeLaw) (positive : Bool) : (s.count positive).RangeLaw := by
  unfold State.count
  split
  · exact ⟨h.1, odometryLaw_move h.2 _⟩
  · exact h

theorem rangeLaw_setPhase {s : State} (h : s.RangeLaw) (pair : Bool × Bool) : (s.setPhase pair).RangeLaw :=
  ⟨h.1, odometryLaw_setPhase h.2 _⟩

theorem rangeLaw_phaseFault {s : State} (h : s.RangeLaw) : s.phaseFault.RangeLaw := by
  have hcounted := odometryLaw_phaseFault h.2
  unfold State.phaseFault
  dsimp only
  split
  · refine rangeLaw_raise ?_ _ _ _
    exact ⟨h.1, hcounted⟩
  · exact ⟨h.1, hcounted⟩

theorem rangeLaw_sampleTach {s : State} (h : s.RangeLaw) (pair : Bool × Bool) : (s.sampleTach pair).RangeLaw := by
  unfold State.sampleTach
  split
  · exact rangeLaw_setPhase h pair
  · split
    · exact h
    · split
      · exact rangeLaw_count (rangeLaw_setPhase h pair) _
      · split
        · exact rangeLaw_count (rangeLaw_setPhase h pair) _
        · exact rangeLaw_phaseFault (rangeLaw_setPhase h pair)

theorem rangeLaw_activateFactor {s : State} (h : s.RangeLaw) : s.activateFactor.RangeLaw := by
  unfold State.activateFactor
  split
  · exact h
  · next f hf =>
    have hin : ParamId.wheelFactor.inRange f = true := (inRange_iff .wheelFactor f).mpr (h.2.staged f hf)
    exact ⟨paramsLaw_set h.1 hin, odometryLaw_staged h.2 (by simp)⟩

theorem rangeLaw_updatePosition {s : State} (h : s.RangeLaw) {q : Int} (hl : -6000 ≤ q) (hu : q ≤ 2000000000)
    (fix : Bool) : (s.updatePosition q fix).RangeLaw := by
  have hplaced : (s.setPosition q).RangeLaw := ⟨h.1, odometryLaw_placed h.2 hl hu⟩
  unfold State.updatePosition
  dsimp only
  split
  · split
    · exact rangeLaw_activateFactor hplaced
    · exact hplaced
  · split
    · exact rangeLaw_activateFactor ⟨hplaced.1, odometryLaw_jump hplaced.2 _⟩
    · have hcounted := odometryLaw_doubted h.2
      unfold State.discrepancy
      dsimp only
      split
      · refine rangeLaw_raise ?_ _ _ _
        exact ⟨h.1, hcounted⟩
      · exact ⟨h.1, hcounted⟩

theorem positionDirection_range {b : PositionBody} {d : Direction} (h : positionDirection b = some d) :
    b.distance.toNat ≤ 2000000000 ∧ b.speed.toNat ≤ 10000 := by
  unfold positionDirection at h
  split at h
  · next hr => exact hr
  · cases h

theorem rangeLaw_takePosition {s : State} (h : s.RangeLaw) (b : PositionBody) : (s.takePosition b).RangeLaw := by
  unfold State.takePosition
  split
  · exact h
  · next d hd =>
    obtain ⟨hdist, hspeed⟩ := positionDirection_range hd
    have haccepted : (s.acceptPosition b d).RangeLaw := ⟨h.1, odometryLaw_heard h.2 _ hspeed d⟩
    split
    · unfold State.applyPosition
      dsimp only
      split
      · next hv =>
        have hoff : 0 ≤ s.params.carOffset ∧ s.params.carOffset ≤ 6000 :=
          (inRange_iff .carOffset _).mp (h.1 .carOffset hv)
        exact rangeLaw_updatePosition haccepted (by omega) (by omega) _
      · exact haccepted
    · exact ⟨h.1, odometryLaw_stale h.2⟩

theorem rangeLaw_writeParam {s : State} (h : s.RangeLaw) {i : ParamId} {v : Int} (hv : i.inRange v = true) :
    (s.writeParam i v).RangeLaw := by
  have hset := paramsLaw_set h.1 hv
  unfold State.writeParam
  split
  · split
    · refine ⟨h.1, odometryLaw_staged h.2 fun x hx => ?_⟩
      cases hx
      exact (inRange_iff .wheelFactor _).mp hv
    · exact ⟨hset, h.2⟩
  · exact ⟨hset, odometryLaw_unaligned h.2⟩
  · exact ⟨hset, h.2⟩

theorem rangeLaw_takeParam {s : State} (h : s.RangeLaw) (tag : Half) (i : Byte) (v : Word) :
    (s.takeParam tag i v).RangeLaw := by
  unfold State.takeParam
  split
  · exact rangeLaw_of_eq h (by simp) (by simp)
  · split
    · exact rangeLaw_of_eq h (by simp) (by simp)
    · split
      · exact rangeLaw_of_eq h (by simp) (by simp)
      · next hv => exact rangeLaw_of_eq (rangeLaw_writeParam h (by simpa using hv)) (by simp) (by simp)

theorem rangeLaw_invalidateOffset {s : State} (h : s.RangeLaw) : s.invalidateOffset.RangeLaw :=
  ⟨paramsLaw_invalidate h.1, odometryLaw_unaligned h.2⟩

theorem rangeLaw_takeEnumerate {s : State} (h : s.RangeLaw) (p : Port) (n : Byte) : (s.takeEnumerate p n).RangeLaw := by
  have hrenumbered : (s.renumber p n.toNat).RangeLaw := by
    have hchanged : (if s.trunk.headPort ≠ some p then s.changeHead else s).RangeLaw := by
      split
      · exact rangeLaw_of_eq h (by simp) (by simp)
      · exact h
    unfold State.renumber
    dsimp only
    split
    · exact rangeLaw_of_eq (rangeLaw_invalidateOffset hchanged) rfl rfl
    · exact rangeLaw_of_eq hchanged rfl rfl
  have hunnumbered : s.unnumber.RangeLaw := by
    unfold State.unnumber
    dsimp only
    split
    · exact rangeLaw_of_eq (rangeLaw_invalidateOffset h) rfl rfl
    · exact rangeLaw_of_eq h rfl rfl
  have hbeyond : s.beyondSixteen.RangeLaw := by
    refine rangeLaw_raise ?_ _ _ _
    split
    · exact h
    · exact hunnumbered
  unfold State.takeEnumerate
  split
  · exact h
  · split
    any_goals exact rangeLaw_raise h _ _ _
    all_goals
      split
      · exact hrenumbered
      · exact hbeyond

theorem rangeLaw_takeCommand {s : State} (h : s.RangeLaw) (tag : Half) (code : Byte) :
    (s.takeCommand tag code).RangeLaw := by
  unfold State.takeCommand
  split
  case h_5 =>
    have hreset : ∀ u : State, u.commandReset.RangeLaw := fun _ => ⟨paramsLaw_initial, odometryLaw_initial⟩
    have hack : ∀ r d, (s.ackCommand tag r d).RangeLaw := fun _ _ => rangeLaw_of_eq h (by simp) (by simp)
    unfold State.takeReset
    split
    case h_1 | h_2 =>
      split
      · exact hreset _
      · exact hack _ _
    all_goals exact hack _ _
  all_goals exact rangeLaw_of_eq h (by simp) (by simp)

theorem rangeLaw_actOn {s : State} (h : s.RangeLaw) (p : Port) (x : Telegram) : (actOn p x s).RangeLaw := by
  rcases hb : x.body with _ | b
  · simpa [actOn, hb] using h
  rw [actOn_of_body hb]
  cases b with
  | position b => exact rangeLaw_takePosition h b
  | enumerate n => exact rangeLaw_takeEnumerate h p n
  | param i v => exact rangeLaw_takeParam h x.tag i v
  | command c => exact rangeLaw_takeCommand h x.tag c
  | _ => exact rangeLaw_of_eq h (by simp [actOnBody]) (by simp [actOnBody])

theorem rangeLaw_exec {c : Instr} {s t : State} (ht : exec c s = .next t) (h : s.RangeLaw) : t.RangeLaw :=
  exec_keeps (P := State.RangeLaw) (fun _ _ _ h => h) (fun _ _ _ => ⟨paramsLaw_initial, odometryLaw_initial⟩)
    (fun _ p x _ _ h => rangeLaw_actOn h p x) (fun _ h => rangeLaw_of_eq h (by simp) (by simp))
    (fun _ _ _ _ h => rangeLaw_of_eq h (by simp) (by simp)) (fun _ _ _ _ h => rangeLaw_of_eq h (by simp) (by simp))
    (fun _ _ _ _ _ _ h => rangeLaw_of_eq h (by simp) (by simp)) (fun _ _ _ h => rangeLaw_of_eq h (by simp) (by simp))
    (fun _ _ h => rangeLaw_of_eq h (by simp) (by simp)) (fun _ _ h => rangeLaw_of_eq h (by simp) (by simp))
    (fun _ q h => rangeLaw_sampleTach h q) c s t ht h

theorem rangeLaw_tick {s : State} (h : s.RangeLaw) : s.tick.RangeLaw := by
  obtain ⟨-, e⟩ | ⟨-, -, e⟩ | ⟨c, cs, -, -, e⟩ := tick_cases s <;> rw [e] <;> exact h

/-- Settles O35. -/
theorem stepsKeepParametersAndOdometryInRange : Obligations.StepsKeepParametersAndOdometryInRange :=
  fun _ _ h hlaw => step_keeps (P := State.RangeLaw) (fun _ _ h => h) (fun _ => rangeLaw_tick)
    (fun _ _ _ => rangeLaw_exec) h hlaw

/-! ## PARAM (R126) -/

theorem exec_param_delivered {s : State} {a : Arrival} (h : s.Delivers a) (ident : Byte) (value : Word) :
    exec (.param a ident value) s = .next ((s.taken a.port).takeParam a.tag ident value) :=
  exec_delivered h (.param ident value) rfl rfl rfl

theorem paramOf_none {ident : Byte} (h : ident.toNat = 0 ∨ 20 < ident.toNat) : paramOf ident = none := by
  unfold paramOf
  split
  case h_21 => rfl
  all_goals omega

theorem paramOf_some {ident : Byte} (h1 : 1 ≤ ident.toNat) (h20 : ident.toNat ≤ 20) : ∃ i, paramOf ident = some i := by
  unfold paramOf
  split
  case h_21 =>
    simp only [imp_false] at *
    omega
  all_goals exact ⟨_, rfl⟩

theorem writable_iff (i : ParamId) (n : NodeState) :
    i.writable n = true ↔ if i.standbyOnly then n = .standby else n ≠ .offline := by
  unfold ParamId.writable
  split <;> simp

section
variable {s : State} {a : Arrival} (h : s.Delivers a) {ident : Byte} {i : ParamId} (hi : paramOf ident = some i)
  (value : Word)
include h hi

theorem exec_param_badState (hw : ¬i.writable s.node.state = true) :
    exec (.param a ident value) s = .next { s with trunk := s.acked a 16 2 none } := by
  rw [exec_param_delivered h, State.takeParam, hi]
  simp only [taken_node, hw, Bool.not_false, if_true]
  rw [ack_of_taken rfl]
  rfl

theorem exec_param_range (hw : i.writable s.node.state = true) (hv : ¬i.inRange value.toInt = true) :
    exec (.param a ident value) s = .next { s with trunk := s.acked a 16 4 (some 2) } := by
  rw [exec_param_delivered h, State.takeParam, hi]
  simp only [taken_node, hw, hv, Bool.not_false, Bool.not_true, if_true, if_neg Bool.false_ne_true]
  rw [ack_of_taken rfl]
  rfl

theorem exec_param_written (hw : i.writable s.node.state = true) (hv : i.inRange value.toInt = true) :
    exec (.param a ident value) s = .next
      { (s.taken a.port).writeParam i value.toInt with trunk := s.acked a 16 0 none } := by
  rw [exec_param_delivered h, State.takeParam, hi]
  simp only [taken_node, hw, hv, Bool.not_true, if_neg Bool.false_ne_true]
  rw [ack_of_taken (by simp; rfl)]
  rfl
end

theorem writeParam_other (s : State) {i : ParamId} (v : Int) (hc : i ≠ .carOffset)
    (hw : i = .wheelFactor → s.params.wheelFactorValid = false) : s.writeParam i v = s.setParams (s.params.set v i) := by
  cases i with
  | carOffset => exact absurd rfl hc
  | wheelFactor => simp [State.writeParam, hw rfl]
  | _ => rfl

/-- Settles O36: the table by its rows, then the checks in their order. -/
theorem paramWritesAreCheckedInOrder : Obligations.ParamWritesAreCheckedInOrder := by
  refine ⟨?table, fun a ident value s h => ⟨fun hi => ?unknown, fun h1 h20 => ?known⟩⟩
  case table =>
    simp only [List.forall_mem_cons]
    refine ⟨?_, ?_, ?_, ?_, ?_, ?_, ?_, ?_, ?_, ?_, ?_, ?_, ?_, ?_, ?_, ?_, ?_, ?_, ?_, ?_, List.forall_mem_nil _⟩
    all_goals exact ⟨rfl, fun _ => rfl, rfl, rfl⟩
  case unknown =>
    rw [exec_param_delivered h, State.takeParam, paramOf_none hi]
    exact congrArg _ (ack_of_taken rfl _ _ _)
  case known =>
    obtain ⟨i, hi⟩ := paramOf_some h1 h20
    refine ⟨i, hi, fun hw => ?_, fun hw hv => ?_, fun hw hlow hhigh => ?_⟩
    · exact exec_param_badState h hi value fun hwr => hw ((writable_iff _ _).mp hwr)
    · refine exec_param_range h hi value ((writable_iff _ _).mpr hw) fun hin => ?_
      rw [inRange_iff] at hin
      omega
    · have hexec := exec_param_written h hi value ((writable_iff _ _).mpr hw) ((inRange_iff _ _).mpr ⟨hlow, hhigh⟩)
      rw [hexec]
      refine ⟨?wheel, ?offset, fun hc hwf => ?other, get_set_same _ _ _, valid_set_same _ _ _, fun j hj =>
        ⟨get_set_other _ _ _ hj, valid_set_other _ _ _ hj⟩⟩
      case wheel =>
        rintro rfl hvalid
        have hvalid : (s.taken a.port).params.wheelFactorValid = true := hvalid
        simp only [State.writeParam, hvalid]
        rfl
      case offset =>
        rintro rfl
        rfl
      case other =>
        rw [writeParam_other (s.taken a.port) _ hc hwf]
        rfl

/-! ## The tach (R45 to R48) -/

theorem exec_tach {s : State} (hr : s.pins.rstN = true) (x y : Bool) :
    exec (.tachTransition x y) s = .next (s.sampleTach (x, y)) := event_high (fun s => s.sampleTach (x, y)) s hr

/-- The rows of TABLE 3-II: a raw forward transition, from the pair held to the pair sampled. -/
def tachTable : List ((Bool × Bool) × (Bool × Bool)) :=
  [((false, false), (true, false)), ((true, false), (true, true)), ((true, true), (false, true)),
    ((false, true), (false, false))]

theorem mem_tachTable_forward (old new : Bool × Bool) : (old, new) ∈ tachTable ↔ new = tachForward old := by
  rcases old with ⟨_ | _, _ | _⟩ <;> rcases new with ⟨_ | _, _ | _⟩ <;> decide

theorem mem_tachTable_backward (old new : Bool × Bool) : (new, old) ∈ tachTable ↔ new = tachBackward old := by
  rcases old with ⟨_ | _, _ | _⟩ <;> rcases new with ⟨_ | _, _ | _⟩ <;> decide

theorem tachForward_ne (old : Bool × Bool) : tachForward old ≠ old ∧ tachBackward old ≠ old ∧
    tachBackward old ≠ tachForward old := by
  rcases old with ⟨_ | _, _ | _⟩ <;> decide

/-- A legal transition counts +1 or -1 by its direction and the effective sense. -/
theorem sampleTach_count {s : State} {old pair : Bool × Bool} {forward : Bool} (hold : s.odometry.phase = some old)
    (h : if forward then (old, pair) ∈ tachTable else (pair, old) ∈ tachTable) :
    s.sampleTach pair = (s.setPhase pair).count (decide (forward ≠ s.effectiveSense)) := by
  obtain ⟨hf, hb, hbf⟩ := tachForward_ne old
  unfold State.sampleTach
  rw [hold]
  cases forward with
  | true =>
    rw [if_pos rfl, mem_tachTable_forward] at h
    subst h
    simp only [if_neg hf, if_true]
    cases s.effectiveSense <;> rfl
  | false =>
    rw [if_neg Bool.false_ne_true, mem_tachTable_backward] at h
    subst h
    simp only [if_neg hb, if_neg hbf, if_true]
    cases s.effectiveSense <;> rfl

/-- Both phases changed: no row of TABLE 3-II has it. -/
theorem sampleTach_fault {s : State} {a b x y : Bool} (hold : s.odometry.phase = some (a, b)) (ha : a ≠ x) (hb : b ≠ y) :
    s.sampleTach (x, y) = (s.setPhase (x, y)).phaseFault := by
  have hnone : ∀ a b x y : Bool, a ≠ x → b ≠ y →
      (x, y) ≠ (a, b) ∧ (x, y) ≠ tachForward (a, b) ∧ (x, y) ≠ tachBackward (a, b) := by decide
  obtain ⟨h1, h2, h3⟩ := hnone a b x y ha hb
  unfold State.sampleTach
  rw [hold]
  simp only [if_neg h1, if_neg h2, if_neg h3]

/-- The factor that a count adds, by its sign (R48). -/
theorem effectiveSense_eq (s : State) :
    s.effectiveSense = ((s.params.tachSense == 1) != (s.trunk.headPort == some .B)) := by
  unfold State.effectiveSense
  have h1 : decide (s.params.tachSense = 1) = (s.params.tachSense == 1) := by
    rw [Bool.eq_iff_iff]; simp
  have h2 : decide (s.trunk.headPort = some .B) = (s.trunk.headPort == some .B) := by
    rw [Bool.eq_iff_iff]; simp
  rw [h1, h2]

/-- Settles O32. -/
theorem tachTransitionsMoveThePosition : Obligations.TachTransitionsMoveThePosition := by
  intro x y s hr
  simp only [exec_tach hr, ← effectiveSense_eq]
  refine ⟨fun hp => ?first, fun hp => ?same, fun old forward hold h => ?legal, fun a b hold ha hb => ?fault⟩
  case first =>
    rw [State.sampleTach, hp]
    rfl
  case same => simp [State.sampleTach, hp]
  case legal =>
    have hcount := sampleTach_count hold h
    rw [hcount]
    have hfactor : (if decide (forward ≠ s.effectiveSense) then s.params.wheelFactor else -s.params.wheelFactor) =
        if forward = s.effectiveSense then -s.params.wheelFactor else s.params.wheelFactor := by
      by_cases hs : forward = s.effectiveSense <;> simp [hs]
    refine ⟨fun hv hlow hhigh => ?moved, fun hno => ?kept⟩
    case moved =>
      have hv : (s.setPhase (x, y)).params.wheelFactorValid = true := hv
      rw [State.count, if_pos hv]
      show Host.Outcome.next ((s.setPhase (x, y)).setOdometry ((s.setPhase (x, y)).odometry.move
        (if decide (forward ≠ s.effectiveSense) then s.params.wheelFactor else -s.params.wheelFactor))) = _
      rw [hfactor, Odometry.move, if_pos ⟨hlow, hhigh⟩]
      rfl
    case kept =>
      rcases hno with hv | hno
      · have hv : ¬(s.setPhase (x, y)).params.wheelFactorValid = true := by
          rw [State.setPhase, State.params_setOdometry, hv]
          exact Bool.false_ne_true
        rw [State.count, if_neg hv]
        rfl
      · unfold State.count
        split
        · show Host.Outcome.next ((s.setPhase (x, y)).setOdometry ((s.setPhase (x, y)).odometry.move
            (if decide (forward ≠ s.effectiveSense) then s.params.wheelFactor else -s.params.wheelFactor))) = _
          rw [hfactor, Odometry.move, if_neg fun hin => ?_]
          · rfl
          · obtain ⟨hlow, hhigh⟩ : -2147480948 ≤ _ ∧ _ ≤ (2147480947 : Int) := hin
            rcases hno with hno | hno
            · exact absurd hlow (Int.not_le.mpr hno)
            · exact absurd hhigh (Int.not_le.mpr hno)
        · rfl
  case fault =>
    rw [sampleTach_fault hold ha hb]
    simp only [State.phaseFault, reaches, decide_eq_true_eq]
    rfl

end Sys2Proof.Machine
end

section
/-! PROOFS. POSITION telegrams (R50 to R58, R131): what an acceptance changes, and the two kinds that change nothing of
the position. -/

namespace Sys2Proof.Machine

theorem exec_position_broadcast {s : State} {a : Arrival} (h : s.Broadcasts a) (b : PositionBody) :
    exec (.position a b) s = .next
      (((s.taken a.port).takePosition b).thenForwards a.port ((Body.position b).telegram a)) := by
  rw [exec_broadcast h (.position b) rfl rfl rfl,
    forwardedForm_of_kind _ (.position b) _ (show kindPosition ≠ kindEnumerate by decide)]
  rfl

/-- A POSITION that leaves the Trunk Unit alone is forwarded as it came. -/
theorem exec_position_of_take {s u : State} {a : Arrival} (h : s.Broadcasts a) {b : PositionBody}
    (ht : (s.taken a.port).takePosition b = u) (hu : u.trunk = s.trunk.endReceiving a.port) :
    exec (.position a b) s = .next { u with trunk := s.forwarded a (.position b) } := by
  rw [exec_position_broadcast h, ht, thenForwards_of_trunk hu]
  rfl

/-! ## The checks of R50 and R51 -/

theorem directionOf_eq_some {x : Byte} {d : Direction} (h : x = 0 ∧ d = .forward ∨ x = 1 ∧ d = .backward) :
    directionOf x = some d := by
  obtain ⟨rfl, rfl⟩ | ⟨rfl, rfl⟩ := h <;> rfl

theorem directionOf_eq_none {x : Byte} (h0 : x ≠ 0) (h1 : x ≠ 1) : directionOf x = none := by
  have h0 : x.toNat ≠ 0 := fun h => h0 ((byte_toNat_eq_iff x (by decide)).mp h)
  have h1 : x.toNat ≠ 1 := fun h => h1 ((byte_toNat_eq_iff x (by decide)).mp h)
  unfold directionOf
  split
  · exact absurd ‹_› h0
  · exact absurd ‹_› h1
  · rfl

theorem positionDirection_of_ranges {b : PositionBody} (hd : b.distance.toNat ≤ 2000000000)
    (hs : b.speed.toNat ≤ 10000) : positionDirection b = directionOf b.direction :=
  if_pos ⟨hd, hs⟩

theorem positionDirection_malformed {b : PositionBody}
    (h : 2000000000 < b.distance.toNat ∨ 10000 < b.speed.toNat ∨ (b.direction ≠ 0 ∧ b.direction ≠ 1)) :
    positionDirection b = none := by
  by_cases hr : b.distance.toNat ≤ 2000000000 ∧ b.speed.toNat ≤ 10000
  · rw [positionDirection_of_ranges hr.1 hr.2]
    rcases h with h | h | h
    · omega
    · omega
    · exact directionOf_eq_none h.1 h.2
  · exact if_neg hr

theorem acceptsSequence_of_newer {s : State} {q : Half} (h : ∀ last, s.odometry.lastSequence = some last →
    1 ≤ (q - last).toNat ∧ (q - last).toNat ≤ 32767) : s.acceptsSequence q = true := by
  unfold State.acceptsSequence
  split
  · rfl
  · next last hlast => exact decide_eq_true (h last hlast)

theorem acceptsSequence_stale {s : State} {q last : Half} (hlast : s.odometry.lastSequence = some last)
    (h : (q - last).toNat = 0 ∨ 32768 ≤ (q - last).toNat) : s.acceptsSequence q = false := by
  unfold State.acceptsSequence
  rw [hlast]
  exact decide_eq_false (by omega)

/-! ## The update (R54 to R58) -/

/-- A fix takes the staged factor into effect (R58). -/
theorem activateFactor_setOdometry (s : State) {o : Odometry} {staged : Option Int} (h : o.stagedFactor = staged) :
    (s.setOdometry o).activateFactor =
      { s with
        odometry := { o with stagedFactor := none }
        node := { s.node with params :=
          match staged with
          | some f => { s.params with wheelFactor := f, wheelFactorValid := true }
          | none => s.params } } := by
  subst h
  obtain ⟨phase, pNode, fraction, aligned, staged⟩ := o
  cases staged <;> rfl

/-- Settles O33: the four rows of TABLE 3-III. -/
theorem positionIsAccepted : Obligations.PositionIsAccepted := by
  intro a b s d h hdist hspeed hdir hseq
  have haccept : (s.taken a.port).takePosition b = (s.taken a.port).applyPosition b d := by
    rw [State.takePosition, positionDirection_of_ranges hdist hspeed, directionOf_eq_some hdir]
    exact if_pos (acceptsSequence_of_newer hseq)
  refine ⟨fun hv => ?unplaced, fun hv hnear => ?near, fun hv hal hfar hfix => ?jump, fun hv hal hfar hfix => ?doubt⟩
  case unplaced =>
    have hv : ¬(s.taken a.port).params.carOffsetValid = true := by
      rw [show (s.taken a.port).params = s.params from rfl, hv]
      exact Bool.false_ne_true
    rw [State.applyPosition, if_neg hv] at haccept
    exact exec_position_of_take h haccept rfl
  all_goals
    have hv : (s.taken a.port).params.carOffsetValid = true := hv
    rw [State.applyPosition, if_pos hv, State.updatePosition] at haccept
    dsimp only at haccept
  case near =>
    rw [if_pos (by
      rw [Bool.or_eq_true, Bool.not_eq_true', decide_eq_true_eq]
      exact hnear)] at haccept
    cases hfix : b.flags.getLsbD 0 with
    | true =>
      rw [if_pos (show isFix b = true from hfix), State.setPosition] at haccept
      rcases hst : s.odometry.stagedFactor with _ | f
      all_goals
        rw [activateFactor_setOdometry _ (by exact hst)] at haccept
        exact exec_position_of_take h haccept rfl
    | false =>
      rw [if_neg (by rw [show isFix b = false from hfix]; exact Bool.false_ne_true)] at haccept
      exact exec_position_of_take h haccept rfl
  all_goals
    rw [if_neg (by
      rw [Bool.or_eq_true, Bool.not_eq_true', decide_eq_true_eq]
      rintro (hun | hnear)
      · exact Bool.false_ne_true (hun.symm.trans hal)
      · exact absurd hnear (Int.not_le.mpr hfar))] at haccept
  case jump =>
    rw [if_pos (show isFix b = true from hfix), State.setPosition] at haccept
    rw [hfix]
    rcases hst : s.odometry.stagedFactor with _ | f
    all_goals
      rw [activateFactor_setOdometry _ (by exact hst)] at haccept
      exact exec_position_of_take h haccept rfl
  case doubt =>
    have hfix : ¬isFix b = true := by
      rw [show isFix b = false from hfix]
      exact Bool.false_ne_true
    rw [if_neg hfix] at haccept
    rw [exec_position_broadcast h, haccept, State.discrepancy]
    simp only [reaches, decide_eq_true_eq]
    rfl

/-- Settles O34. -/
theorem positionIsIgnored : Obligations.PositionIsIgnored := by
  refine fun a b s h => ⟨fun hbad => ?malformed, fun last hlast hdist hspeed hdir hold => ?stale⟩
  case malformed =>
    refine exec_position_of_take (u := s.taken a.port) h ?_ rfl
    rw [State.takePosition, positionDirection_malformed hbad]
  case stale =>
    obtain ⟨d, hd⟩ : ∃ d, directionOf b.direction = some d := by
      rcases hdir with hdir | hdir
      · exact ⟨_, directionOf_eq_some (.inl ⟨hdir, rfl⟩)⟩
      · exact ⟨_, directionOf_eq_some (.inr ⟨hdir, rfl⟩)⟩
    refine exec_position_of_take (u := (s.taken a.port).setOdometry
      { s.odometry with stalePositions := bump16 s.odometry.stalePositions }) h ?_ rfl
    rw [State.takePosition, positionDirection_of_ranges hdist hspeed, hd]
    refine if_neg ?_
    rw [acceptsSequence_stale (s := s.taken a.port) hlast hold]
    exact Bool.false_ne_true

end Sys2Proof.Machine
end

section
/-! PROOFS. The law of the modes as four laws, one each of the head port, of what ACTIVE rests on, of the channels and of
the DEMAND frames, and what the operations on faults and channels do to each (R96, R97, R112, R123). -/

namespace Sys2Proof.Machine

/-! ## The four laws -/

/-- The head port and the address are held outside OFFLINE, and only there (R145). -/
def State.HeadLaw (s : State) : Prop :=
  s.trunk.headPort.isSome = decide (s.node.state ≠ .offline) ∧ s.trunk.address.isSome = decide (s.node.state ≠ .offline)

/-- What the alignment, the parameters and the banks say of the node state. -/
structure State.ReadyLaw (s : State) : Prop where
  alignedOnline : s.odometry.aligned = true → s.node.state ≠ .offline
  activeReady : s.node.state = .active → s.odometry.aligned = true ∧ s.params.allValid = true
  activeBank : s.node.state = .active → s.tables.activeBank.state = .verified
  swap : s.tables.swapPending = true → s.tables.inactiveBank.state = .verified

/-- What each channel says of itself alone. -/
structure State.LoneLaw (s : State) : Prop where
  marked : ∀ c, (s.channel c).mark = true → (s.channel c).state = .unlocking
  lockTimers : ∀ c, (s.channel c).lockTimer.isSome = true ↔ (s.channel c).state = .locking
  demandZero : ∀ c, (s.channel c).state.tilts = false → s.lastDemand c = 0

/-- What the channels say of each other and of the node state. -/
structure State.ChannelLaw (s : State) : Prop where
  lone : s.LoneLaw
  admitted : ∀ c, admits s.node.state (s.channel c).state = true
  pair : s.node.state = .active → s.tilt.ch1.state = s.tilt.ch2.state
  runout : s.generator.runout = true ↔ s.node.state = .active ∧ s.tilt.ch1.state = .returning
  unlock : s.node.unlockTimer.isSome = true ↔ s.tilt.ch1.state = .unlocking
  single : ∀ c, (s.channel c).mark = true → (s.channel c.other).mark = false

/-- The DEMAND frames not yet judged carry the demands held, in the car frame. -/
def State.FrameLaw (s : State) : Prop := ∀ f ∈ s.tilt.frames, f.demand = s.turn (s.lastDemand f.drive)

theorem modeLaw_iff (s : State) : s.ModeLaw ↔ s.HeadLaw ∧ s.ReadyLaw ∧ s.ChannelLaw ∧ s.FrameLaw := by
  constructor
  · intro h
    refine ⟨⟨h.headKnown, h.addressHeld⟩, ⟨h.alignedOnline, h.activeReady, h.activeBank, h.swap⟩,
      ⟨⟨fun c hc => (h.marks c hc).1, h.lockTimers, h.demandZero⟩, fun c => ?_, h.pair, h.runout, h.unlock,
        fun c hc => (h.marks c hc).2⟩, h.frames⟩
    cases c with
    | CH1 => exact h.channel1
    | CH2 => exact h.channel2
  · rintro ⟨⟨hhead, haddress⟩, hready, hchannel, hframe⟩
    exact ⟨hhead, haddress, hchannel.admitted .CH1, hchannel.admitted .CH2, hchannel.pair, hchannel.runout,
      hready.alignedOnline, hready.activeReady, hready.activeBank, hready.swap, hchannel.unlock,
      fun c hc => ⟨hchannel.lone.marked c hc, hchannel.single c hc⟩, hchannel.lone.lockTimers, hchannel.lone.demandZero,
      hframe⟩

section
variable {s : State} (h : s.ModeLaw)
include h

theorem headLaw_of_mode : s.HeadLaw := ((modeLaw_iff s).mp h).1
theorem readyLaw_of_mode : s.ReadyLaw := ((modeLaw_iff s).mp h).2.1
theorem channelLaw_of_mode : s.ChannelLaw := ((modeLaw_iff s).mp h).2.2.1
end

/-! ## Each law through what it does not see -/

section
variable {s t : State}

theorem headLaw_of_same (h : s.HeadLaw) (ht : SameHead s.trunk t.trunk) (hn : t.node.state = s.node.state) :
    t.HeadLaw := by
  rwa [State.HeadLaw, ht.1, ht.2, hn]

theorem readyLaw_of_same (h : s.ReadyLaw) (hn : t.node.state = s.node.state) (ho : t.odometry.aligned = s.odometry.aligned)
    (hp : t.params.allValid = s.params.allValid) (hb : t.tables = s.tables) : t.ReadyLaw :=
  ⟨by rw [ho, hn]; exact h.alignedOnline, by rw [ho, hn, hp]; exact h.activeReady, by rw [hb, hn]; exact h.activeBank,
    by rw [hb]; exact h.swap⟩

/-- What a channel's law sees of the channel. -/
def TiltChannel.SameMode (x y : TiltChannel) : Prop :=
  y.state = x.state ∧ y.mark = x.mark ∧ y.lockTimer.isSome = x.lockTimer.isSome

theorem loneLaw_of_same (h : s.LoneLaw) (hc : ∀ c, (s.channel c).SameMode (t.channel c))
    (hd : ∀ c, t.lastDemand c = s.lastDemand c) : t.LoneLaw := by
  refine ⟨fun c => ?_, fun c => ?_, fun c => ?_⟩ <;> obtain ⟨hs, hm, hl⟩ := hc c
  · rw [hm, hs]
    exact h.marked c
  · rw [hl, hs]
    exact h.lockTimers c
  · rw [hs, hd]
    exact h.demandZero c

theorem channelLaw_of_same (h : s.ChannelLaw) (hn : t.node.state = s.node.state)
    (hu : t.node.unlockTimer.isSome = s.node.unlockTimer.isSome) (hc : ∀ c, (s.channel c).SameMode (t.channel c))
    (hd : ∀ c, t.lastDemand c = s.lastDemand c) (hr : t.generator.runout = s.generator.runout) : t.ChannelLaw := by
  have h1 : t.tilt.ch1.state = s.tilt.ch1.state := (hc .CH1).1
  have h2 : t.tilt.ch2.state = s.tilt.ch2.state := (hc .CH2).1
  refine ⟨loneLaw_of_same h.lone hc hd, fun c => ?_, ?_, ?_, ?_, fun c => ?_⟩
  · rw [hn, (hc c).1]
    exact h.admitted c
  · rw [hn, h1, h2]
    exact h.pair
  · rw [hr, hn, h1]
    exact h.runout
  · rw [hu, h1]
    exact h.unlock
  · rw [(hc c).2.1, (hc c.other).2.1]
    exact h.single c

theorem turn_of_head (h : t.trunk.headPort = s.trunk.headPort) (x : Int) : t.turn x = s.turn x := by
  rw [State.turn, State.turn, h]

theorem frameLaw_of_same (h : s.FrameLaw) (hh : t.trunk.headPort = s.trunk.headPort)
    (hd : ∀ c, t.lastDemand c = s.lastDemand c) (hf : ∀ f ∈ t.tilt.frames, f ∈ s.tilt.frames) : t.FrameLaw := by
  intro f hft
  rw [turn_of_head hh, hd]
  exact h f (hf f hft)

theorem lastDemand_of_generator (h : t.generator = s.generator) (c : Channel) : t.lastDemand c = s.lastDemand c := by
  cases c with
  | CH1 => exact congrArg Generator.last1 h
  | CH2 => exact congrArg Generator.last2 h

theorem channel_of_tilt (h : t.tilt = s.tilt) (c : Channel) : t.channel c = s.channel c := by
  cases c with
  | CH1 => exact congrArg Tilt.ch1 h
  | CH2 => exact congrArg Tilt.ch2 h

theorem channelLaw_of_eq (h : s.ChannelLaw) (hn : t.node.state = s.node.state)
    (hu : t.node.unlockTimer = s.node.unlockTimer) (ht : t.tilt = s.tilt) (hg : t.generator = s.generator) :
    t.ChannelLaw :=
  channelLaw_of_same h hn (by rw [hu]) (fun c => by rw [channel_of_tilt ht c]; exact ⟨rfl, rfl, rfl⟩)
    (lastDemand_of_generator hg) (by rw [hg])

theorem frameLaw_of_eq (h : s.FrameLaw) (hh : t.trunk.headPort = s.trunk.headPort) (ht : t.tilt = s.tilt)
    (hg : t.generator = s.generator) : t.FrameLaw :=
  frameLaw_of_same h hh (lastDemand_of_generator hg) (fun f => by rw [ht]; exact id)

/-- The mode law does not see the window, the supervision, the pins and the queues. -/
theorem modeLaw_of_eq (h : s.ModeLaw) (hk : SameHead s.trunk t.trunk) (hn : t.node = s.node) (ht : t.tilt = s.tilt)
    (hg : t.generator = s.generator) (ho : t.odometry.aligned = s.odometry.aligned) (hb : t.tables = s.tables) :
    t.ModeLaw :=
  (modeLaw_iff t).mpr
    ⟨headLaw_of_same (headLaw_of_mode h) hk (by rw [hn]),
      readyLaw_of_same (readyLaw_of_mode h) (by rw [hn]) ho (by rw [State.params, hn]; rfl) hb,
      channelLaw_of_eq (channelLaw_of_mode h) (by rw [hn]) (by rw [hn]) ht hg,
      frameLaw_of_eq h.frames hk.1 ht hg⟩

end

theorem modeLaw_setTrunk {s : State} (u : Trunk) (hk : SameHead s.trunk u) (h : s.ModeLaw) : (s.setTrunk u).ModeLaw :=
  modeLaw_of_eq h hk rfl rfl rfl rfl rfl

/-! ## The tilt after a stop, and a fault raised (R97, R123) -/

theorem standDown_state (x : TiltChannel) (time : Nat) :
    (x.standDown time).state =
      match x.state with
      | .tracking | .returning => .returning
      | .unlocking | .locking => .locking
      | .locked => .locked
      | .failed => .failed := by
  unfold TiltChannel.standDown
  split <;> simp_all [TiltChannel.enterLocking]

theorem standDown_not_unlocking (x : TiltChannel) (time : Nat) : (x.standDown time).state ≠ .unlocking := by
  rw [standDown_state]
  split <;> simp

/-- A channel whose state has no mark but in UNLOCKING has none once it stands down. -/
theorem standDown_mark {x : TiltChannel} (time : Nat) (h : x.mark = true → x.state = .unlocking) :
    (x.standDown time).mark = false := by
  have hm : x.state ≠ .unlocking → x.mark = false := fun hs => by
    rw [Bool.eq_false_iff]
    exact fun hmark => hs (h hmark)
  unfold TiltChannel.standDown
  split
  case h_3 => rfl
  all_goals exact hm (by simp [*])

theorem standDown_lockTimer {x : TiltChannel} (time : Nat) (h : x.lockTimer.isSome = true ↔ x.state = .locking) :
    (x.standDown time).lockTimer.isSome = true ↔ (x.standDown time).state = .locking := by
  unfold TiltChannel.standDown
  split
  case h_3 => simp [TiltChannel.enterLocking]
  all_goals simp_all

theorem standDown_tilts (x : TiltChannel) (time : Nat) : (x.standDown time).state.tilts = x.state.tilts := by
  rw [standDown_state]
  cases x.state <;> rfl

section
variable {s : State} (n : NodeState)

theorem standDown_node : (s.standDown n).node = { s.node with state := n, unlockTimer := none } := rfl

theorem loneLaw_standDown (h : s.LoneLaw) : (s.standDown n).LoneLaw := by
  refine ⟨fun c hc => ?_, fun c => ?_, fun c hc => ?_⟩ <;> rw [channel_standDown] at *
  · rw [standDown_mark _ (h.marked c)] at hc
    cases hc
  · exact standDown_lockTimer _ (h.lockTimers c)
  · rw [standDown_tilts] at hc
    have hzero := h.demandZero c hc
    cases c <;> exact hzero

/-- A node that leaves for WINDDOWN or SAFE, with channels that the new state admits. -/
theorem channelLaw_standDown (h : s.LoneLaw) (hn : n ≠ .active)
    (hallow : ∀ c, admits n ((s.channel c).standDown s.lockTime).state = true) : (s.standDown n).ChannelLaw where
  lone := loneLaw_standDown n h
  admitted c := by
    rw [channel_standDown]
    exact hallow c
  pair hactive := absurd hactive hn
  runout := iff_of_false Bool.false_ne_true fun hactive => hn hactive.1
  unlock := iff_of_false Bool.false_ne_true (standDown_not_unlocking _ _)
  single c _ := by
    rw [channel_standDown]
    exact standDown_mark _ (h.marked c.other)

theorem readyLaw_standDown (h : s.ReadyLaw) (hn : n ≠ .active) (ho : n ≠ .offline) : (s.standDown n).ReadyLaw :=
  ⟨fun _ => ho, fun hactive => absurd hactive hn, fun hactive => absurd hactive hn, h.swap⟩

theorem headLaw_standDown (h : s.HeadLaw) (hs : s.node.state ≠ .offline) (ho : n ≠ .offline) : (s.standDown n).HeadLaw := by
  unfold State.HeadLaw at h ⊢
  rw [standDown_node, decide_eq_true hs] at *
  simpa [ho] using h

theorem frameLaw_standDown (h : s.FrameLaw) : (s.standDown n).FrameLaw :=
  frameLaw_of_same h rfl (fun c => by cases c <;> rfl) fun _ hf => hf

end

theorem admits_safe_standDown (x : TiltChannel) (time : Nat) : admits .safe (x.standDown time).state = true := by
  rw [standDown_state]
  cases x.state <;> rfl

theorem admits_winddown_standDown {x : TiltChannel} (time : Nat) (h : admits .active x.state = true) :
    admits .winddown (x.standDown time).state = true := by
  rw [standDown_state]
  revert h
  cases x.state <;> decide

theorem modeLaw_standDown {s : State} (n : NodeState) (hh : s.HeadLaw) (hr : s.ReadyLaw) (hl : s.LoneLaw) (hf : s.FrameLaw)
    (hs : s.node.state ≠ .offline) (hn : n ≠ .active) (ho : n ≠ .offline)
    (hallow : ∀ c, admits n ((s.channel c).standDown s.lockTime).state = true) : (s.standDown n).ModeLaw :=
  (modeLaw_iff _).mpr ⟨headLaw_standDown n hh hs ho, readyLaw_standDown n hr hn ho, channelLaw_standDown n hl hn hallow,
    frameLaw_standDown n hf⟩

theorem sameHead_raise (s : State) (cls : FaultClass) (ch : Option Channel) (d : Nat) :
    SameHead s.trunk (s.raise cls ch d).trunk := by
  rcases raise_trunk s cls ch d with e | ⟨u, hu, e⟩
  · rw [e]
    exact ⟨rfl, rfl⟩
  · rw [e, ← hu]
    unfold State.requestAlert
    split
    · exact sameHead_placeOwn _ _
    · exact ⟨rfl, rfl⟩

/-- A fault strikes nothing, or takes the node to SAFE (R123). -/
theorem struck_cases (s : State) (cls : FaultClass) :
    s.struck cls = s ∧ (cls.stopping = false ∨ s.node.state = .safe ∨ s.node.state = .offline) ∨
      s.struck cls = s.standDown .safe ∧ s.node.state ≠ .offline := by
  by_cases hnone : cls.stopping = false ∨ s.node.state = .safe ∨ s.node.state = .offline
  · exact .inl ⟨struck_eq_self hnone, hnone⟩
  · simp only [not_or] at hnone
    obtain ⟨hc, hs, ho⟩ := hnone
    refine .inr ⟨struck_eq_standDown (by simpa using hc) ?_, ho⟩
    cases hn : s.node.state <;> simp_all

/-- A fault that is raised where the channels alone hold their laws: the stop restores the rest. -/
theorem modeLaw_raise_of {s : State} (hh : s.HeadLaw) (hr : s.ReadyLaw) (hl : s.LoneLaw) (hf : s.FrameLaw)
    (cls : FaultClass) (ch : Option Channel) (d : Nat)
    (hc : cls.stopping = false ∨ s.node.state = .safe ∨ s.node.state = .offline → s.ChannelLaw) :
    (s.raise cls ch d).ModeLaw := by
  have hstruck : (s.struck cls).ModeLaw := by
    obtain ⟨e, hnone⟩ | ⟨e, hs⟩ := struck_cases s cls
    · rw [e]
      exact (modeLaw_iff s).mpr ⟨hh, hr, hc hnone, hf⟩
    · rw [e]
      exact modeLaw_standDown .safe hh hr hl hf hs (by decide) (by decide) fun c => admits_safe_standDown _ _
  refine modeLaw_of_eq hstruck ?_ (raise_node _ _ _ _) (raise_tilt _ _ _ _) (raise_generator _ _ _ _) ?_ ?_
  · rw [struck_trunk]
    exact sameHead_raise s cls ch d
  · rw [raise_eq]
    rfl
  · rw [raise_eq]
    rfl

theorem modeLaw_raise {s : State} (h : s.ModeLaw) (cls : FaultClass) (ch : Option Channel) (d : Nat) :
    (s.raise cls ch d).ModeLaw :=
  modeLaw_raise_of (headLaw_of_mode h) (readyLaw_of_mode h) (channelLaw_of_mode h).lone h.frames cls ch d
    fun _ => channelLaw_of_mode h

theorem raise_lastDemand (s : State) (cls : FaultClass) (ch : Option Channel) (d : Nat) (c : Channel) :
    (s.raise cls ch d).lastDemand c = s.lastDemand c := by
  have hgen := raise_generator s cls ch d
  obtain ⟨e, -⟩ | ⟨e, -⟩ := struck_cases s cls
  · rw [e] at hgen
    exact lastDemand_of_generator hgen c
  · rw [e] at hgen
    rw [lastDemand_of_generator hgen c]
    cases c <;> rfl

/-! ## One channel replaced -/

section
variable {s : State} (c : Channel) (x : TiltChannel)

theorem forall_channel_of_other {P : Channel → Prop} (h : P c) (ho : P c.other) : ∀ e, P e := by
  intro e
  cases c <;> cases e <;> first | exact h | exact ho

theorem setChannel_lastDemand (e : Channel) : (s.setChannel c x).lastDemand e = s.lastDemand e :=
  lastDemand_of_generator (by simp) e

theorem setChannel_frames : (s.setChannel c x).tilt.frames = s.tilt.frames := by
  simp [Tilt.frames]

theorem loneLaw_setChannel (h : s.LoneLaw) (hm : x.mark = true → x.state = .unlocking)
    (ht : x.lockTimer.isSome = true ↔ x.state = .locking) (hd : x.state.tilts = false → s.lastDemand c = 0) :
    (s.setChannel c x).LoneLaw := by
  refine ⟨forall_channel_of_other c ?_ ?_, forall_channel_of_other c ?_ ?_, forall_channel_of_other c ?_ ?_⟩
  all_goals simp only [State.channel_setChannel, State.channel_setChannel_other, setChannel_lastDemand]
  · exact hm
  · exact h.marked c.other
  · exact ht
  · exact h.lockTimers c.other
  · exact hd
  · exact h.demandZero c.other

theorem setChannel_ch1_state (hx : x.state = (s.channel c).state) :
    (s.setChannel c x).tilt.ch1.state = s.tilt.ch1.state := by
  cases c with
  | CH1 => exact hx
  | CH2 => rfl

theorem setChannel_ch2_state (hx : x.state = (s.channel c).state) :
    (s.setChannel c x).tilt.ch2.state = s.tilt.ch2.state := by
  cases c with
  | CH1 => rfl
  | CH2 => exact hx

/-- A channel that keeps its state, and is marked alone. -/
theorem channelLaw_setChannel (h : s.ChannelLaw) (hx : x.state = (s.channel c).state)
    (ht : x.lockTimer = (s.channel c).lockTimer) (hm : x.mark = true → x.state = .unlocking)
    (hother : x.mark = true → (s.channel c.other).mark = false) : (s.setChannel c x).ChannelLaw where
  lone := loneLaw_setChannel c x h.lone hm (by rw [ht, hx]; exact h.lone.lockTimers c)
    (by rw [hx]; exact h.lone.demandZero c)
  admitted := by
    rw [State.setChannel_node]
    refine forall_channel_of_other c ?_ ?_
    · rw [State.channel_setChannel, hx]
      exact h.admitted c
    · rw [State.channel_setChannel_other]
      exact h.admitted c.other
  pair := by
    rw [State.setChannel_node, setChannel_ch1_state c x hx, setChannel_ch2_state c x hx]
    exact h.pair
  runout := by
    rw [State.setChannel_generator, State.setChannel_node, setChannel_ch1_state c x hx]
    exact h.runout
  unlock := by
    rw [State.setChannel_node, setChannel_ch1_state c x hx]
    exact h.unlock
  single := by
    refine forall_channel_of_other c ?_ ?_
    · rw [State.channel_setChannel, State.channel_setChannel_other]
      exact hother
    · rw [State.channel_setChannel_other, Channel.other_other, State.channel_setChannel]
      intro hmark
      rw [Bool.eq_false_iff]
      exact fun hxm => Bool.false_ne_true ((hother hxm).symm.trans hmark)

/-- Outside ACTIVE a channel is not UNLOCKING, by TABLE 6-II. -/
theorem not_unlocking_of_admits {n : NodeState} {x : ChannelState} (h : admits n x = true) (hn : n ≠ .active) :
    x ≠ .unlocking := by
  rintro rfl
  cases n <;> simp_all [admits]

/-- A channel that changes state outside ACTIVE, unmarked. -/
theorem channelLaw_setChannel_rest (h : s.ChannelLaw) (hn : s.node.state ≠ .active)
    (hx : admits s.node.state x.state = true) (hm : x.mark = false)
    (ht : x.lockTimer.isSome = true ↔ x.state = .locking) (hd : x.state.tilts = false → s.lastDemand c = 0) :
    (s.setChannel c x).ChannelLaw := by
  have hallowted : ∀ e, admits s.node.state ((s.setChannel c x).channel e).state = true := by
    refine forall_channel_of_other c ?_ ?_
    · rwa [State.channel_setChannel]
    · rw [State.channel_setChannel_other]
      exact h.admitted c.other
  have hlone : (s.setChannel c x).LoneLaw := loneLaw_setChannel c x h.lone (by simp [hm]) ht hd
  refine ⟨hlone, by rwa [State.setChannel_node], by simp [hn], ?_, ?_, fun e _ => ?_⟩
  · simpa [hn] using h.runout
  · have hold : s.tilt.ch1.state ≠ .unlocking := not_unlocking_of_admits (h.admitted .CH1) hn
    have hnew : (s.setChannel c x).tilt.ch1.state ≠ .unlocking := not_unlocking_of_admits (hallowted .CH1) hn
    rw [State.setChannel_node]
    exact ⟨fun htimer => absurd (h.unlock.mp htimer) hold, fun hstate => absurd hstate hnew⟩
  · rw [Bool.eq_false_iff]
    exact fun hmark => not_unlocking_of_admits (hallowted e.other) hn (hlone.marked e.other hmark)

theorem frameLaw_setChannel (h : s.FrameLaw) : (s.setChannel c x).FrameLaw :=
  frameLaw_of_same h (by simp) (setChannel_lastDemand c x) (fun _ => by rw [setChannel_frames]; exact id)

theorem headLaw_setChannel (h : s.HeadLaw) : (s.setChannel c x).HeadLaw :=
  headLaw_of_same h (by rw [State.setChannel_trunk]; exact ⟨rfl, rfl⟩) (by simp)

theorem readyLaw_setChannel (h : s.ReadyLaw) : (s.setChannel c x).ReadyLaw :=
  readyLaw_of_same h (by simp) (by simp) (by simp) (by simp)

theorem modeLaw_setChannel_of (h : s.ModeLaw) (hc : (s.setChannel c x).ChannelLaw) : (s.setChannel c x).ModeLaw :=
  (modeLaw_iff _).mpr ⟨headLaw_setChannel c x (headLaw_of_mode h), readyLaw_setChannel c x (readyLaw_of_mode h), hc,
    frameLaw_setChannel c x h.frames⟩

/-- A channel changed only in what the laws do not see. -/
theorem modeLaw_setChannel_quiet (h : s.ModeLaw) (hx : x.state = (s.channel c).state) (hm : x.mark = (s.channel c).mark)
    (ht : x.lockTimer = (s.channel c).lockTimer) : (s.setChannel c x).ModeLaw := by
  refine modeLaw_setChannel_of c x h (channelLaw_setChannel c x (channelLaw_of_mode h) hx ht ?_ ?_)
  · rw [hm, hx]
    exact (channelLaw_of_mode h).lone.marked c
  · rw [hm]
    exact (channelLaw_of_mode h).single c
end

end Sys2Proof.Machine
end

section
/-! PROOFS. The law of the modes through every step (R96, R112, R145, TABLES 4-II, 5-IV and 6-II). -/

namespace Sys2Proof.Machine

/-! ## Outside ACTIVE and tilt -/

/-- Both channels rest at 0 where the node state admits no tilt. -/
theorem demands_zero_of_rest {s : State} (h : s.ChannelLaw) (hn : s.node.state = .offline ∨ s.node.state = .standby)
    (c : Channel) : s.lastDemand c = 0 := by
  refine h.lone.demandZero c ?_
  have hallow := h.admitted c
  generalize (s.channel c).state = x at hallow
  revert hallow
  rcases hn with hn | hn <;> rw [hn] <;> cases x <;> decide

theorem turn_zero (s : State) : s.turn 0 = 0 := by
  unfold State.turn
  split <;> rfl

/-- Frames of demands that are 0 are frames of them on either head port. -/
theorem frameLaw_of_zero {s t : State} (h : s.FrameLaw) (hz : ∀ c, s.lastDemand c = 0)
    (hd : ∀ c, t.lastDemand c = s.lastDemand c) (hf : ∀ f ∈ t.tilt.frames, f ∈ s.tilt.frames) : t.FrameLaw := by
  intro f hft
  rw [h f (hf f hft), hd, hz, turn_zero, turn_zero]

/-- A node state that neither tilts nor is ACTIVE, taken with the channels as they are. -/
theorem channelLaw_setNodeState {s : State} (h : s.ChannelLaw) {n : NodeState} (hs : s.node.state ≠ .active) (hn : n ≠ .active)
    (ha : ∀ c, admits n (s.channel c).state = true) : (s.setNodeState n).ChannelLaw where
  lone := loneLaw_of_same h.lone (fun _ => ⟨rfl, rfl, rfl⟩) fun c => by cases c <;> rfl
  admitted := ha
  pair := fun hactive => absurd hactive hn
  runout := by
    refine iff_of_false (fun hr => hs (h.runout.mp hr).1) fun hactive => hn hactive.1
  unlock := h.unlock
  single := h.single

theorem modeLaw_setNodeState {s : State} (h : s.ModeLaw) {n : NodeState} (hs : s.node.state ≠ .active)
    (hso : s.node.state ≠ .offline) (hn : n ≠ .active) (hno : n ≠ .offline)
    (ha : ∀ c, admits n (s.channel c).state = true) : (s.setNodeState n).ModeLaw := by
  refine (modeLaw_iff _).mpr ⟨?_, ⟨fun _ => hno, fun e => absurd e hn, fun e => absurd e hn, h.swap⟩,
    channelLaw_setNodeState (channelLaw_of_mode h) hs hn ha, frameLaw_of_eq h.frames rfl rfl rfl⟩
  obtain ⟨hhead, haddress⟩ := headLaw_of_mode h
  rw [decide_eq_true hso] at hhead haddress
  refine ⟨hhead.trans ?_, haddress.trans ?_⟩ <;> exact (decide_eq_true hno).symm

/-! ## Odometry and POSITION -/

/-- The odometry replaced, aligned only in a node that is addressed and always in an ACTIVE one. -/
theorem modeLaw_setOdometry {s : State} (h : s.ModeLaw) (o : Odometry) (ho : o.aligned = true → s.node.state ≠ .offline)
    (ha : s.node.state = .active → o.aligned = true) : (s.setOdometry o).ModeLaw :=
  (modeLaw_iff _).mpr ⟨headLaw_of_same (headLaw_of_mode h) ⟨rfl, rfl⟩ rfl,
    ⟨ho, fun e => ⟨ha e, (h.activeReady e).2⟩, h.activeBank, h.swap⟩,
    channelLaw_of_eq (channelLaw_of_mode h) rfl rfl rfl rfl, frameLaw_of_eq h.frames rfl rfl rfl⟩

theorem modeLaw_setOdometry_quiet {s : State} (h : s.ModeLaw) {o : Odometry} (ho : o.aligned = s.odometry.aligned) :
    (s.setOdometry o).ModeLaw := modeLaw_of_eq h ⟨rfl, rfl⟩ rfl rfl rfl ho rfl

/-- Parameters replaced by ones no less valid. -/
theorem modeLaw_setParams {s : State} (h : s.ModeLaw) {p : Params} (hp : s.node.state = .active → p.allValid = true) :
    (s.setParams p).ModeLaw :=
  (modeLaw_iff _).mpr ⟨headLaw_of_same (headLaw_of_mode h) ⟨rfl, rfl⟩ rfl,
    ⟨h.alignedOnline, fun e => ⟨(h.activeReady e).1, hp e⟩, h.activeBank, h.swap⟩,
    channelLaw_of_eq (channelLaw_of_mode h) rfl rfl rfl rfl, frameLaw_of_eq h.frames rfl rfl rfl⟩

theorem move_aligned (o : Odometry) (distance : Int) : (o.move distance).aligned = o.aligned := by
  unfold Odometry.move
  dsimp only
  split <;> rfl

theorem modeLaw_count {s : State} (h : s.ModeLaw) (positive : Bool) : (s.count positive).ModeLaw := by
  unfold State.count
  split
  · exact modeLaw_setOdometry_quiet h (move_aligned _ _)
  · exact h

theorem modeLaw_setPhase {s : State} (h : s.ModeLaw) (pair : Bool × Bool) : (s.setPhase pair).ModeLaw :=
  modeLaw_setOdometry_quiet h rfl

theorem modeLaw_phaseFault {s : State} (h : s.ModeLaw) : s.phaseFault.ModeLaw := by
  have hcounted := modeLaw_setOdometry_quiet h (o := { s.odometry with
    phaseFaults := bump8 s.odometry.phaseFaults, phaseFaultTotal := bump16 s.odometry.phaseFaultTotal }) rfl
  unfold State.phaseFault
  dsimp only
  split
  · exact modeLaw_raise hcounted _ _ _
  · exact hcounted

theorem modeLaw_sampleTach {s : State} (h : s.ModeLaw) (pair : Bool × Bool) : (s.sampleTach pair).ModeLaw := by
  have hset := modeLaw_setPhase h pair
  unfold State.sampleTach
  split
  · exact hset
  · split
    · exact h
    · split
      · exact modeLaw_count hset _
      · split
        · exact modeLaw_count hset _
        · exact modeLaw_phaseFault hset

theorem modeLaw_activateFactor {s : State} (h : s.ModeLaw) : s.activateFactor.ModeLaw := by
  unfold State.activateFactor
  split
  · exact h
  · refine modeLaw_setOdometry_quiet (modeLaw_setParams h fun e => ?_) rfl
    have hvalid := (h.activeReady e).2
    simp only [Params.allValid, Bool.and_eq_true] at hvalid ⊢
    exact ⟨hvalid.1, trivial⟩

theorem modeLaw_setPosition {s : State} (h : s.ModeLaw) (hn : s.node.state ≠ .offline) (q : Int) :
    (s.setPosition q).ModeLaw := modeLaw_setOdometry h _ (fun _ => hn) fun _ => rfl

theorem modeLaw_discrepancy {s : State} (h : s.ModeLaw) : s.discrepancy.ModeLaw := by
  have hcounted := modeLaw_setOdometry_quiet h
    (o := { s.odometry with discrepancies := bump8 s.odometry.discrepancies }) rfl
  unfold State.discrepancy
  dsimp only
  split
  · exact modeLaw_raise hcounted _ _ _
  · exact hcounted

theorem modeLaw_updatePosition {s : State} (h : s.ModeLaw) (hn : s.node.state ≠ .offline) (q : Int) (fix : Bool) :
    (s.updatePosition q fix).ModeLaw := by
  have hplaced := modeLaw_setPosition h hn q
  unfold State.updatePosition
  dsimp only
  split
  · split
    · exact modeLaw_activateFactor hplaced
    · exact hplaced
  · split
    · exact modeLaw_activateFactor (modeLaw_setOdometry_quiet hplaced rfl)
    · exact modeLaw_discrepancy h

theorem modeLaw_takePosition {s : State} (h : s.ModeLaw) (hn : s.node.state ≠ .offline) (b : PositionBody) :
    (s.takePosition b).ModeLaw := by
  have haccepted : ∀ d, (s.acceptPosition b d).ModeLaw := fun d => modeLaw_of_eq h ⟨rfl, rfl⟩ rfl rfl rfl rfl rfl
  unfold State.takePosition
  split
  · exact h
  · next d _ =>
    split
    · unfold State.applyPosition
      dsimp only
      split
      · exact modeLaw_updatePosition (haccepted d) hn _ _
      · exact haccepted d
    · exact modeLaw_setOdometry_quiet h rfl

theorem modeLaw_takeSegment {s : State} (h : s.ModeLaw) (b : SegmentBody) : (s.takeSegment b).ModeLaw := by
  have hrefused : ∀ w, (s.setWindow w).ModeLaw := fun w => modeLaw_of_eq h ⟨rfl, rfl⟩ rfl rfl rfl rfl rfl
  unfold State.takeSegment State.refuseSegment
  dsimp only
  split
  · exact h
  · split
    · exact hrefused _
    · exact modeLaw_raise (hrefused _) _ _ _
  · exact hrefused _

/-! ## ENUMERATE (TABLE 8-V) -/

theorem modeLaw_invalidateOffset {s : State} (h : s.ModeLaw) (hn : s.node.state ≠ .active) : s.invalidateOffset.ModeLaw :=
  modeLaw_setOdometry (modeLaw_setParams h fun e => absurd e hn) _ (fun e => absurd e Bool.false_ne_true)
    fun e => absurd e hn

/-- A node at rest that takes a head port, an address and the node state that goes with them. -/
theorem modeLaw_rehead {s : State} (h : s.ModeLaw) (hn : s.node.state = .offline ∨ s.node.state = .standby) (u : Trunk)
    (n : NodeState) (hn' : n = .offline ∨ n = .standby) (hh : u.headPort.isSome = decide (n ≠ .offline))
    (ha : u.address.isSome = decide (n ≠ .offline)) (hal : s.odometry.aligned = true → n ≠ .offline) :
    ((s.setTrunk u).setNodeState n).ModeLaw := by
  have hna : n ≠ .active := by rcases hn' with rfl | rfl <;> decide
  have hsa : s.node.state ≠ .active := by rcases hn with e | e <;> rw [e] <;> decide
  have hc := channelLaw_of_mode h
  have hallow : ∀ c, admits n (s.channel c).state = true := by
    intro c
    have hold := hc.admitted c
    generalize (s.channel c).state = x at hold
    revert hold
    rcases hn with hn | hn <;> rcases hn' with rfl | rfl <;> rw [hn] <;> cases x <;> decide
  refine (modeLaw_iff _).mpr ⟨⟨hh, ha⟩, ⟨hal, fun e => absurd e hna, fun e => absurd e hna, h.swap⟩, ?_, ?_⟩
  · exact channelLaw_setNodeState (s := s.setTrunk u) (channelLaw_of_eq hc rfl rfl rfl rfl) hsa hna hallow
  · exact frameLaw_of_zero h.frames (demands_zero_of_rest hc hn) (fun c => by cases c <;> rfl) fun _ hf => hf

theorem modeLaw_renumber {s : State} (h : s.ModeLaw) (hn : s.node.state = .offline ∨ s.node.state = .standby) (p : Port)
    (n : Nat) : (s.renumber p n).ModeLaw := by
  have hsa : s.node.state ≠ .active := by rcases hn with e | e <;> rw [e] <;> decide
  have hchanged : s.changeHead.ModeLaw := modeLaw_of_eq h (sameHead_discardOwn _) rfl rfl rfl rfl rfl
  unfold State.renumber
  dsimp only
  by_cases hp : s.trunk.headPort ≠ some p
  · rw [if_pos hp, if_pos (.inl hp)]
    exact modeLaw_rehead (modeLaw_invalidateOffset hchanged hsa) hn _ .standby (.inr rfl) rfl rfl fun _ => by decide
  · rw [if_neg hp]
    split
    · exact modeLaw_rehead (modeLaw_invalidateOffset h hsa) hn _ .standby (.inr rfl) rfl rfl fun _ => by decide
    · exact modeLaw_rehead h hn _ .standby (.inr rfl) rfl rfl fun _ => by decide

/-- R157 clears the alignment, for a node that held a head port; one that held none was not aligned. -/
theorem modeLaw_unnumber {s : State} (h : s.ModeLaw) (hn : s.node.state = .standby) : s.unnumber.ModeLaw := by
  have hsa : s.node.state ≠ .active := by rw [hn]; decide
  have hheld : s.trunk.headPort.isSome = true ∨ s.trunk.address.isSome = true := by
    left
    rw [h.headKnown, hn]
    rfl
  unfold State.unnumber
  dsimp only
  rw [if_pos hheld]
  exact modeLaw_rehead (modeLaw_invalidateOffset h hsa) (.inr hn) _ .offline (.inl rfl) rfl rfl
    fun e => absurd e Bool.false_ne_true

theorem modeLaw_takeEnumerate {s : State} (h : s.ModeLaw) (p : Port) (n : Byte) : (s.takeEnumerate p n).ModeLaw := by
  have hbeyond : s.node.state = .offline ∨ s.node.state = .standby → s.beyondSixteen.ModeLaw := by
    intro hn
    unfold State.beyondSixteen
    split
    · exact modeLaw_raise h _ _ _
    · next ho => exact modeLaw_raise (modeLaw_unnumber h (hn.resolve_left ho)) _ _ _
  unfold State.takeEnumerate
  split
  · exact h
  · split
    any_goals exact modeLaw_raise h _ _ _
    · next hn =>
      split
      · exact modeLaw_renumber h (.inl hn) p _
      · exact hbeyond (.inl hn)
    · next hn =>
      split
      · exact modeLaw_renumber h (.inr hn) p _
      · exact hbeyond (.inr hn)

/-! ## The management telegrams -/

theorem modeLaw_ack {s : State} (h : s.ModeLaw) (kind : Byte) (tag : Half) (r : Byte) (d : Option Nat) :
    (s.ack kind tag r d).ModeLaw := modeLaw_setTrunk _ (sameHead_placeOwn _ _) h

theorem modeLaw_ackCommand {s : State} (h : s.ModeLaw) (tag : Half) (r : Byte) (d : Option Nat) :
    (s.ackCommand tag r d).ModeLaw := modeLaw_ack h _ _ _ _

theorem allValid_set {p : Params} (h : p.allValid = true) (v : Int) (i : ParamId) : (p.set v i).allValid = true := by
  simp only [Params.allValid, Bool.and_eq_true] at h ⊢
  obtain ⟨⟨⟨hc, h1⟩, h2⟩, hw⟩ := h
  cases i <;> simp [Params.set, hc, h1, h2, hw]

theorem modeLaw_writeParam {s : State} (h : s.ModeLaw) {i : ParamId} (hw : i.writable s.node.state = true) (v : Int) :
    (s.writeParam i v).ModeLaw := by
  have hset : (s.setParams (s.params.set v i)).ModeLaw :=
    modeLaw_setParams h fun e => allValid_set (h.activeReady e).2 v i
  unfold State.writeParam
  split
  · split
    · exact modeLaw_setOdometry_quiet h rfl
    · exact hset
  · have hstandby : s.node.state = .standby := by simpa [ParamId.writable, ParamId.standbyOnly] using hw
    refine modeLaw_setOdometry hset _ (fun e => absurd e Bool.false_ne_true) fun e => ?_
    have e : s.node.state = .active := e
    rw [hstandby] at e
    cases e
  · exact hset

theorem modeLaw_takeParam {s : State} (h : s.ModeLaw) (tag : Half) (ident : Byte) (v : Word) :
    (s.takeParam tag ident v).ModeLaw := by
  unfold State.takeParam
  split
  · exact modeLaw_ack h _ _ _ _
  · split
    · exact modeLaw_ack h _ _ _ _
    · next hw =>
      split
      · exact modeLaw_ack h _ _ _ _
      · exact modeLaw_ack (modeLaw_writeParam h (by simpa using hw) _) _ _ _ _

/-- What the mode law needs of new tables: the active bank's state as it was, and a pending swap to a VERIFIED bank. -/
def Tables.KeepsReady (t u : Tables) : Prop :=
  u.activeBank.state = t.activeBank.state ∧
    ((t.swapPending = true → t.inactiveBank.state = .verified) →
      u.swapPending = true → u.inactiveBank.state = .verified)

theorem modeLaw_answerTable {s : State} (h : s.ModeLaw) {x : TableAnswer} (hx : s.tables.KeepsReady x.tables) (kind : Byte)
    (tag : Half) : (s.answerTable kind tag x).ModeLaw := by
  refine modeLaw_ack (s := s.setTables x.tables) ((modeLaw_iff _).mpr ⟨headLaw_of_same (headLaw_of_mode h) ⟨rfl, rfl⟩ rfl,
    ⟨h.alignedOnline, h.activeReady, fun e => hx.1.trans (h.activeBank e), hx.2 h.swap⟩,
    channelLaw_of_eq (channelLaw_of_mode h) rfl rfl rfl rfl, frameLaw_of_eq h.frames rfl rfl rfl⟩) _ _ _ _

theorem keepsReady_refl (t : Tables) : t.KeepsReady t := ⟨rfl, id⟩

/-- A bank stored beside the active one, with no swap pending. -/
theorem keepsReady_setBank {t : Tables} (hp : t.swapPending = false) {b : BankName} (hb : b ≠ t.active) (x : Bank) :
    t.KeepsReady (t.setBank b x) := by
  have hsame : (t.setBank b x).swapPending = false ∧ (t.setBank b x).activeBank = t.activeBank := by
    unfold Tables.activeBank
    generalize ha : t.active = a at hb
    cases b <;> cases a <;> simp_all [Tables.setBank, Tables.bank]
  exact ⟨by rw [hsame.2], fun _ hpending => absurd (hsame.1.symm.trans hpending) Bool.false_ne_true⟩

theorem keepsReady_request (t : Tables) (bank : Byte) {act : BankName → TableAnswer}
    (hact : ∀ b, t.swapPending = false → b ≠ t.active → t.KeepsReady (act b).tables) :
    t.KeepsReady (t.request bank act).tables := by
  unfold Tables.request
  split
  · exact keepsReady_refl t
  · next b _ =>
    split
    · exact keepsReady_refl t
    · next hp =>
      split
      · exact keepsReady_refl t
      · next hb => exact hact b (by simpa using hp) hb

theorem keepsReady_write (t : Tables) (bank : Byte) (ts : List Triplet) : t.KeepsReady (t.write bank ts).tables := by
  refine keepsReady_request t bank fun b hp hb => ?_
  split
  · exact keepsReady_refl t
  · exact keepsReady_setBank hp hb _

theorem keepsReady_writeThresholds (t : Tables) (bank first : Byte) (vs : List Half) :
    t.KeepsReady (t.writeThresholds bank first vs).tables := by
  refine keepsReady_request t bank fun b hp hb => ?_
  split
  · exact keepsReady_refl t
  · split
    · exact keepsReady_refl t
    · exact keepsReady_setBank hp hb _

theorem keepsReady_trim (t : Tables) (bank cls trim : Byte) : t.KeepsReady (t.trim bank cls trim).tables := by
  refine keepsReady_request t bank fun b hp hb => ?_
  split
  · exact keepsReady_refl t
  · split
    · exact keepsReady_refl t
    · exact keepsReady_setBank hp hb _

theorem keepsReady_verify (t : Tables) (bank : Byte) : t.KeepsReady (t.verify bank).tables := by
  refine keepsReady_request t bank fun b hp hb => ?_
  split
  · exact keepsReady_refl t
  · exact keepsReady_setBank hp hb _

theorem keepsReady_swap (t : Tables) : t.KeepsReady t.swap.tables := by
  unfold Tables.swap
  split
  · exact keepsReady_refl t
  · split
    · exact keepsReady_refl t
    · exact keepsReady_refl t
    · next hv => exact ⟨rfl, fun _ _ => hv⟩

/-! ## The commands (TABLE 10-II) -/

theorem bothIn_iff (s : State) (x : ChannelState) : s.bothIn x = true ↔ ∀ c, (s.channel c).state = x := by
  rw [State.bothIn, Bool.and_eq_true, decide_eq_true_eq, decide_eq_true_eq]
  exact ⟨fun ⟨h1, h2⟩ c => by cases c <;> assumption, fun h => ⟨h .CH1, h .CH2⟩⟩

/-- The facts that ENABLE in STANDBY has found when it meets no obstacle (TABLE 6-V). -/
theorem ready_of_no_obstacle {s : State} (h : s.enableObstacle = none) :
    s.params.allValid = true ∧ s.tables.activeBank.state = .verified ∧ s.odometry.aligned = true ∧
      ∀ c, (s.channel c).state = .locked := by
  have hsome : ∀ {b : Bool} {n : Nat} {o : Option Nat}, (if b = true then some n else o) = none → b = false ∧ o = none := by
    intro b n o e
    cases b <;> simp_all
  unfold State.enableObstacle at h
  obtain ⟨hp, h⟩ := hsome h
  split at h
  · cases h
  next hbank =>
    obtain ⟨ha, h⟩ := hsome h
    obtain ⟨-, h⟩ := hsome h
    obtain ⟨hr, -⟩ := hsome h
    simp only [Bool.not_eq_false', Bool.and_eq_true, TiltChannel.ready, decide_eq_true_eq] at hp ha hr
    obtain ⟨⟨⟨h1, -⟩, -⟩, ⟨h2, -⟩, -⟩ := hr
    exact ⟨hp, Decidable.not_not.mp hbank, ha.1, fun c => by cases c <;> assumption⟩

theorem activate_channel (s : State) (c : Channel) : s.activate.channel c = (s.channel c).enterUnlocking := by
  cases c <;> rfl

theorem modeLaw_activate {s : State} (h : s.ModeLaw) (hn : s.node.state = .standby) (ho : s.enableObstacle = none) :
    s.activate.ModeLaw := by
  obtain ⟨hp, hb, hal, hlocked⟩ := ready_of_no_obstacle ho
  have hc := channelLaw_of_mode h
  have hd : ∀ c, s.activate.lastDemand c = 0 := fun c =>
    (lastDemand_of_generator (s := s) rfl c).trans (demands_zero_of_rest hc (.inr hn) c)
  have htimer : ∀ c, (s.channel c).lockTimer.isSome = false := by
    intro c
    rw [Bool.eq_false_iff]
    intro e
    rw [hc.lone.lockTimers, hlocked] at e
    cases e
  refine (modeLaw_iff _).mpr ⟨?_, ⟨fun _ => by simp [State.activate], fun _ => ⟨hal, hp⟩, fun _ => hb, h.swap⟩,
    ⟨⟨fun c _ => ?_, fun c => ?_, fun c _ => hd c⟩, fun c => ?_, fun _ => rfl, ?_, iff_of_true rfl rfl, fun c _ => ?_⟩, ?_⟩
  · obtain ⟨hhead, haddress⟩ := headLaw_of_mode h
    rw [hn] at hhead haddress
    exact ⟨hhead, haddress⟩
  · rw [activate_channel]
    rfl
  · rw [activate_channel]
    refine iff_of_false ?_ (by simp [TiltChannel.enterUnlocking])
    rw [show ((s.channel c).enterUnlocking).lockTimer = (s.channel c).lockTimer from rfl, htimer]
    exact Bool.false_ne_true
  · rw [activate_channel]
    rfl
  · refine iff_of_false (fun hr => ?_) (by simp [State.activate, TiltChannel.enterUnlocking])
    have hactive := (hc.runout.mp hr).1
    rw [hn] at hactive
    cases hactive
  · rw [activate_channel]
    rfl
  · exact frameLaw_of_same h.frames rfl (fun c => lastDemand_of_generator rfl c) fun _ hf => hf

theorem admits_standby_of_locked {s : State} (h : ∀ c, (s.channel c).state = .locked) (c : Channel) :
    admits .standby (s.channel c).state = true := by
  rw [h c]
  rfl

theorem modeLaw_initial (pins : Pins) (s : State) : (s.powerOn pins).ModeLaw where
  headKnown := rfl
  addressHeld := rfl
  channel1 := rfl
  channel2 := rfl
  pair _ := rfl
  runout := by simp [State.powerOn, Generator.initial, NodeControl.initial]
  alignedOnline := by simp [State.powerOn, Odometry.initial]
  activeReady := by simp [State.powerOn, NodeControl.initial]
  activeBank := by simp [State.powerOn, NodeControl.initial]
  swap := by simp [State.powerOn, Tables.initial]
  unlock := by simp [State.powerOn, NodeControl.initial, Tilt.initial, TiltChannel.initial]
  marks c := by cases c <;> exact fun e => absurd e Bool.false_ne_true
  lockTimers c := by cases c <;> simp [State.powerOn, Tilt.initial, TiltChannel.initial]
  demandZero c _ := by cases c <;> rfl
  frames := by simp [State.powerOn, Tilt.frames, Tilt.initial]

/-- The command reset gives every block but the Trunk Unit what a power-on gives it, but for the node state. -/
theorem modeLaw_commandReset {s : State} (h : s.ModeLaw) (hn : s.node.state ≠ .offline) : s.commandReset.ModeLaw := by
  have hpower := modeLaw_initial s.pins s
  obtain ⟨hhead, haddress⟩ := headLaw_of_mode h
  rw [decide_eq_true hn] at hhead haddress
  refine (modeLaw_iff _).mpr ⟨⟨hhead, haddress⟩, ⟨?_, ?_, ?_, hpower.swap⟩, ?_, ?_⟩
  · simp [State.commandReset]
  · simp [State.commandReset]
  · simp [State.commandReset]
  · refine channelLaw_of_eq (s := (s.powerOn s.pins).setNodeState .standby) ?_ rfl rfl rfl rfl
    refine channelLaw_setNodeState (channelLaw_of_mode hpower) (by simp [State.powerOn, NodeControl.initial]) (by decide)
      fun c => ?_
    cases c <;> rfl
  · exact fun f hf => absurd hf (by simp [State.commandReset, Tilt.frames, Tilt.initial])

theorem modeLaw_takeEnable {s : State} (h : s.ModeLaw) (tag : Half) : (s.takeEnable tag).ModeLaw := by
  unfold State.takeEnable
  split
  case h_1 hn =>
    split
    · exact modeLaw_ackCommand h _ _ _
    · next ho => exact modeLaw_ackCommand (modeLaw_activate h hn ho) _ _ _
  all_goals exact modeLaw_ackCommand h _ _ _

theorem modeLaw_takeDisable {s : State} (h : s.ModeLaw) (tag : Half) : (s.takeDisable tag).ModeLaw := by
  unfold State.takeDisable
  split
  case h_1 hn =>
    have hc := channelLaw_of_mode h
    refine modeLaw_ackCommand (modeLaw_standDown .winddown (headLaw_of_mode h) (readyLaw_of_mode h) hc.lone h.frames
      (by rw [hn]; decide) (by decide) (by decide) fun c => admits_winddown_standDown _ ?_) _ _ _
    rw [← hn]
    exact hc.admitted c
  all_goals exact modeLaw_ackCommand h _ _ _

theorem modeLaw_takeRelease {s : State} (h : s.ModeLaw) (tag : Half) : (s.takeRelease tag).ModeLaw := by
  unfold State.takeRelease
  split
  case h_1 hn =>
    split
    · next hb =>
      refine modeLaw_ackCommand (modeLaw_setNodeState h (by rw [hn]; decide) (by rw [hn]; decide) (by decide) (by decide)
        (admits_standby_of_locked ((bothIn_iff s _).mp hb))) _ _ _
    · exact modeLaw_ackCommand h _ _ _
  all_goals exact modeLaw_ackCommand h _ _ _

theorem modeLaw_takeClearFaults {s : State} (h : s.ModeLaw) (tag : Half) : (s.takeClearFaults tag).ModeLaw := by
  have hcleared : s.clearFaults.ModeLaw := modeLaw_of_eq h ⟨rfl, rfl⟩ rfl rfl rfl rfl rfl
  unfold State.takeClearFaults
  split
  case h_5 => exact modeLaw_ackCommand h _ _ _
  all_goals exact modeLaw_ackCommand hcleared _ _ _

theorem modeLaw_takeReset {s : State} (h : s.ModeLaw) (tag : Half) : (s.takeReset tag).ModeLaw := by
  have hreset : s.node.state ≠ .offline → (s.ackCommand tag resultOk none).commandReset.ModeLaw := fun hn =>
    modeLaw_commandReset (modeLaw_ackCommand h _ _ _) (by rwa [(State.ackCommand_frame s tag resultOk none).2.2.2.2.2.2.1])
  unfold State.takeReset
  split
  case h_1 hn | h_2 hn =>
    split
    · exact hreset (by rw [hn]; decide)
    · exact modeLaw_ackCommand h _ _ _
  all_goals exact modeLaw_ackCommand h _ _ _

theorem modeLaw_takeCommand {s : State} (h : s.ModeLaw) (tag : Half) (code : Byte) : (s.takeCommand tag code).ModeLaw := by
  unfold State.takeCommand
  split
  · exact modeLaw_takeEnable h tag
  · exact modeLaw_takeDisable h tag
  · exact modeLaw_takeRelease h tag
  · exact modeLaw_takeClearFaults h tag
  · exact modeLaw_takeReset h tag
  · exact modeLaw_ackCommand h _ _ _

theorem modeLaw_report {s : State} (h : s.ModeLaw) (item : Byte) (tag : Half) (r : Byte) (d : Option Nat)
    (contents : List Byte) : (s.report item tag r d contents).ModeLaw := modeLaw_setTrunk _ (sameHead_placeOwn _ _) h

theorem modeLaw_takeQuery {s : State} (h : s.ModeLaw) (tag : Half) (item u v : Byte) :
    (s.takeQuery tag item u v).ModeLaw := by
  have hemptied : (s.setSupervision { s.supervision with snapshot := none }).ModeLaw :=
    modeLaw_of_eq h ⟨rfl, rfl⟩ rfl rfl rfl rfl rfl
  unfold State.takeQuery
  split
  case h_7 => exact modeLaw_report hemptied _ _ _ _ _
  case h_4 =>
    unfold State.answerTableRow
    split
    · exact modeLaw_report h _ _ _ _ _
    · split <;> exact modeLaw_report h _ _ _ _ _
  case h_5 =>
    unfold State.answerThresholds
    split <;> exact modeLaw_report h _ _ _ _ _
  case h_6 =>
    unfold State.answerFaults
    split <;> exact modeLaw_report h _ _ _ _ _
  case h_9 =>
    unfold State.answerParam
    split <;> exact modeLaw_report h _ _ _ _ _
  all_goals exact modeLaw_report h _ _ _ _ _

/-! ## Every telegram that the node acts on -/

theorem body_of_isEnumerate {x : Telegram} {b : Body} (hx : isEnumerate x = true) (hb : x.body = some b) :
    ∃ n, b = .enumerate n := by
  have hkind : x.kind = 5 := by
    simp only [isEnumerate, Bool.and_eq_true, decide_eq_true_eq] at hx
    exact hx.1
  rw [Telegram.body, hkind] at hb
  change readEnumerate x.payload = some b at hb
  unfold readEnumerate at hb
  split at hb
  · exact ⟨_, (Option.some.inj hb).symm⟩
  · cases hb

/-- Without a head port the node acts on ENUMERATE alone (TABLE 8-IV). -/
theorem headPort_of_acts {t : Trunk} {p : Port} {x : Telegram} {b : Body} (ha : Acts t p x) (hb : x.body = some b)
    (hne : ∀ n, b ≠ .enumerate n) : t.headPort.isSome = true := by
  rcases hh : t.headPort with _ | q
  · obtain ⟨-, ha⟩ := ha
    simp only [Trunk.route, hh] at ha
    have hx : isEnumerate x = true := Classical.byContradiction fun hx => by
      rw [if_neg hx] at ha
      rcases ha with ha | ha <;> cases ha
    obtain ⟨n, hn⟩ := body_of_isEnumerate hx hb
    exact absurd hn (hne n)
  · rfl

theorem modeLaw_actOn {s : State} (h : s.ModeLaw) {p : Port} {x : Telegram} (ha : Acts s.trunk p x) :
    (actOn p x s).ModeLaw := by
  rcases hb : x.body with _ | b
  · simpa [actOn, hb] using h
  rw [actOn_of_body hb]
  cases b with
  | position b =>
    refine modeLaw_takePosition h (fun hn => ?_) b
    have hhead := headPort_of_acts ha hb (by simp)
    rw [h.headKnown, hn] at hhead
    cases hhead
  | segment b => exact modeLaw_takeSegment h b
  | withdraw g id =>
    refine modeLaw_of_eq h ?_ (by simp [actOnBody]) (by simp [actOnBody]) (by simp [actOnBody]) (by simp [actOnBody])
      (by simp [actOnBody])
    rw [actOnBody, (State.takeWithdraw_frame s g id).2.1]
    exact ⟨rfl, rfl⟩
  | snapshot =>
    refine modeLaw_of_eq h ?_ (by simp [actOnBody]) (by simp [actOnBody]) (by simp [actOnBody]) (by simp [actOnBody])
      (by simp [actOnBody])
    rw [actOnBody, (State.takeSnapshot_frame s x.tag).2.1]
    exact ⟨rfl, rfl⟩
  | enumerate n => exact modeLaw_takeEnumerate h p n
  | param i v => exact modeLaw_takeParam h x.tag i v
  | tableWrite bank ts => exact modeLaw_answerTable h (keepsReady_write _ _ _) _ _
  | tableThresholds bank first vs => exact modeLaw_answerTable h (keepsReady_writeThresholds _ _ _ _) _ _
  | tableTrim bank cls trim => exact modeLaw_answerTable h (keepsReady_trim _ _ _ _) _ _
  | bankVerify bank => exact modeLaw_answerTable h (keepsReady_verify _ _) _ _
  | bankSwap => exact modeLaw_answerTable h (keepsReady_swap _) _ _
  | command c => exact modeLaw_takeCommand h x.tag c
  | query i u v => exact modeLaw_takeQuery h x.tag i u v

end Sys2Proof.Machine
end

section
/-! PROOFS. The law of the modes through the control period, the drive link, the timers and the tick. -/

namespace Sys2Proof.Machine

/-! ## The expiry of the control period (R38, R71 to R73, R90) -/

/-- A pair that tilts, moved to TRACKING or to RETURNING for runout, with any demands. -/
theorem channelLaw_movePair {s : State} (h : s.ChannelLaw) (hn : s.node.state = .active)
    (hs : s.tilt.ch1.state ≠ .unlocking) {x : ChannelState} {runout : Bool} (hx : x = .tracking ∨ x = .returning)
    (hr : runout = true ↔ x = .returning) (d1 d2 : Int) : ((s.setPair x runout).setDemands d1 d2).ChannelLaw := by
  have hpair : s.tilt.ch1.state = s.tilt.ch2.state := h.pair hn
  have hnone : ∀ c, (s.channel c).state ≠ .unlocking ∧ (s.channel c).state ≠ .locking := by
    have hallow := h.admitted .CH1
    have h1 : s.tilt.ch1.state ≠ .unlocking ∧ s.tilt.ch1.state ≠ .locking := by
      refine ⟨hs, fun e => ?_⟩
      rw [hn, State.channel_CH1, e] at hallow
      cases hallow
    intro c
    cases c with
    | CH1 => exact h1
    | CH2 => exact ⟨hpair ▸ h1.1, hpair ▸ h1.2⟩
  have hstate : ∀ c, (((s.setPair x runout).setDemands d1 d2).channel c).state = x := fun c => by cases c <;> rfl
  have hmark : ∀ c, (((s.setPair x runout).setDemands d1 d2).channel c).mark = false := by
    have hold : ∀ c, (s.channel c).mark = false := fun c => by
      rw [Bool.eq_false_iff]
      exact fun hm => (hnone c).1 (h.lone.marked c hm)
    intro c
    cases c with
    | CH1 => exact hold .CH1
    | CH2 => exact hold .CH2
  have htimer : ∀ c, (((s.setPair x runout).setDemands d1 d2).channel c).lockTimer.isSome = false := by
    have hold : ∀ c, (s.channel c).lockTimer.isSome = false := fun c => by
      rw [Bool.eq_false_iff]
      exact fun ht => (hnone c).2 ((h.lone.lockTimers c).mp ht)
    intro c
    cases c with
    | CH1 => exact hold .CH1
    | CH2 => exact hold .CH2
  have hunlocking : x ≠ .unlocking := by rcases hx with rfl | rfl <;> decide
  have hlocking : x ≠ .locking := by rcases hx with rfl | rfl <;> decide
  have htilts : x.tilts = true := by rcases hx with rfl | rfl <;> rfl
  refine ⟨⟨fun c hm => ?_, fun c => ?_, fun c ht => ?_⟩, fun c => ?_, fun _ => rfl, ?_, ?_, fun c _ => hmark c.other⟩
  · rw [hmark] at hm
    cases hm
  · rw [htimer, hstate]
    exact iff_of_false Bool.false_ne_true hlocking
  · rw [hstate, htilts] at ht
    cases ht
  · show admits s.node.state (((s.setPair x runout).setDemands d1 d2).channel c).state = true
    rw [hn, hstate]
    rcases hx with rfl | rfl <;> rfl
  · exact hr.trans ⟨fun e => ⟨hn, e⟩, fun e => e.2⟩
  · exact iff_of_false (fun hu => hs (h.unlock.mp hu)) hunlocking

/-- A channel that takes part in no runout decision rests at 0 where it does not tilt. -/
theorem restDemand_zero {s : State} {c : Channel} (h : (s.channel c).state.tilts = false) : s.restDemand c = 0 := by
  unfold State.restDemand
  generalize (s.channel c).state = x at h
  cases x <;> first | rfl | cases h

theorem channelLaw_restDemands {s : State} (h : s.ChannelLaw) :
    (s.setDemands (s.restDemand .CH1) (s.restDemand .CH2)).ChannelLaw where
  lone :=
    { marked := h.lone.marked
      lockTimers := h.lone.lockTimers
      demandZero := fun c => by
        cases c with
        | CH1 => exact restDemand_zero (s := s) (c := .CH1)
        | CH2 => exact restDemand_zero (s := s) (c := .CH2) }
  admitted := h.admitted
  pair := h.pair
  runout := h.runout
  unlock := h.unlock
  single := h.single

theorem pairTracking_iff (s : State) :
    s.pairTracking = true ↔ s.node.state = .active ∧ ∀ c, (s.channel c).state = .tracking := by
  rw [State.pairTracking, Bool.and_eq_true, decide_eq_true_eq, bothIn_iff]

theorem pairInRunout_iff (s : State) :
    s.pairInRunout = true ↔
      (s.node.state = .active ∧ ∀ c, (s.channel c).state = .returning) ∧ s.generator.runout = true := by
  rw [State.pairInRunout, Bool.and_eq_true, Bool.and_eq_true, decide_eq_true_eq, bothIn_iff]

theorem channelLaw_trackPair {s : State} (h : s.ChannelLaw) (hn : s.node.state = .active)
    (hs : s.tilt.ch1.state ≠ .unlocking) : s.trackPair.ChannelLaw :=
  channelLaw_movePair h hn hs (.inl rfl) (by decide) _ _

theorem channelLaw_returnPair {s : State} (h : s.ChannelLaw) (hn : s.node.state = .active)
    (hs : s.tilt.ch1.state ≠ .unlocking) : s.returnPair.ChannelLaw :=
  channelLaw_movePair h hn hs (.inr rfl) (by decide) _ _

theorem channelLaw_formDemands {s : State} (h : s.ChannelLaw) : s.formDemands.ChannelLaw := by
  unfold State.formDemands
  split
  · next hp =>
    obtain ⟨hn, hs⟩ := (pairTracking_iff s).mp hp
    have hs : s.tilt.ch1.state ≠ .unlocking := by rw [show s.tilt.ch1.state = _ from hs .CH1]; decide
    split
    · exact channelLaw_trackPair h hn hs
    · exact channelLaw_of_eq (channelLaw_returnPair h hn hs) rfl rfl rfl rfl
  · split
    · next hp =>
      obtain ⟨⟨hn, hs⟩, -⟩ := (pairInRunout_iff s).mp hp
      have hs : s.tilt.ch1.state ≠ .unlocking := by rw [show s.tilt.ch1.state = _ from hs .CH1]; decide
      split
      · exact channelLaw_trackPair h hn hs
      · exact channelLaw_returnPair h hn hs
    · exact channelLaw_restDemands h

theorem readyLaw_completeSwap {s : State} (h : s.ReadyLaw) : s.completeSwap.ReadyLaw := by
  unfold State.completeSwap
  split
  · next hp =>
    exact ⟨h.alignedOnline, h.activeReady, fun _ => h.swap hp, fun e => absurd e Bool.false_ne_true⟩
  · exact h

/-- The frames that an expiry fixes carry the demands that it formed (R82, R90). -/
theorem frameLaw_startExchanges (s : State) : s.startExchanges.FrameLaw := by
  intro f hf
  have hf : f ∈ [s.demandFrame .CH1, s.demandFrame .CH2] := hf
  rw [List.mem_cons, List.mem_singleton] at hf
  rcases hf with rfl | rfl <;> rfl

theorem modeLaw_expirePeriod {s : State} (h : s.ModeLaw) : s.expirePeriod.ModeLaw := by
  have hstarted : s.startPeriod.ModeLaw :=
    (modeLaw_iff _).mpr ⟨headLaw_of_same (headLaw_of_mode h) ⟨rfl, rfl⟩ rfl,
      readyLaw_of_same (readyLaw_of_mode h) rfl rfl rfl rfl,
      channelLaw_of_same (channelLaw_of_mode h) rfl rfl (fun _ => ⟨rfl, rfl, rfl⟩) (fun c => by cases c <;> rfl) rfl,
      frameLaw_of_same h.frames rfl (fun c => by cases c <;> rfl) fun _ hf => hf⟩
  have hready : s.startPeriod.completeSwap.retire.ReadyLaw :=
    readyLaw_of_same (readyLaw_completeSwap (readyLaw_of_mode hstarted)) (by simp) (by simp) (by simp) (by simp)
  have hchannel : s.startPeriod.completeSwap.retire.ChannelLaw :=
    channelLaw_of_eq (channelLaw_of_mode hstarted) (by simp) (by simp) (by simp) (by simp)
  refine (modeLaw_iff _).mpr ⟨headLaw_of_same (headLaw_of_mode h) ?_ (by simp), ?_, ?_, frameLaw_startExchanges _⟩
  · rw [(State.expirePeriod_frame s).2.1]
    exact ⟨rfl, rfl⟩
  · exact readyLaw_of_same hready (by simp [State.expirePeriod]) (by simp [State.expirePeriod])
      (by simp [State.expirePeriod]) (by simp [State.expirePeriod])
  · exact channelLaw_of_same (channelLaw_formDemands hchannel) rfl rfl (fun c => by cases c <;> exact ⟨rfl, rfl, rfl⟩)
      (fun c => by cases c <;> rfl) rfl

/-! ## The drive link (R89 to R93) -/

theorem modeLaw_setTilt_link {s : State} (h : s.ModeLaw) (phase : LinkPhase) (waiting : Option DemandFrame)
    (window : Option Nat)
    (hf : ∀ f ∈ ({ s.tilt with phase := phase, waiting := waiting, window := window } : Tilt).frames, f ∈ s.tilt.frames) :
    (s.setTilt { s.tilt with phase := phase, waiting := waiting, window := window }).ModeLaw :=
  (modeLaw_iff _).mpr ⟨headLaw_of_same (headLaw_of_mode h) ⟨rfl, rfl⟩ rfl,
    readyLaw_of_same (readyLaw_of_mode h) rfl rfl rfl rfl,
    channelLaw_of_same (channelLaw_of_mode h) rfl rfl (fun c => by cases c <;> exact ⟨rfl, rfl, rfl⟩)
      (fun c => by cases c <;> rfl) rfl,
    frameLaw_of_same h.frames rfl (fun c => by cases c <;> rfl) hf⟩

theorem modeLaw_endExchange {s : State} (h : s.ModeLaw) (f : DemandFrame) : (s.setTilt (s.tilt.endExchange f)).ModeLaw := by
  unfold Tilt.endExchange
  split
  · next g _ hw =>
    refine modeLaw_setTilt_link h _ _ _ fun x hx => ?_
    have hx : x = g := by simpa [Tilt.frames] using hx
    simp [Tilt.frames, hw, hx]
  · refine modeLaw_setTilt_link h _ _ _ fun x hx => absurd hx ?_
    simp [Tilt.frames]

theorem modeLaw_demandSent {s : State} (h : s.ModeLaw) {f : DemandFrame} {n : Nat} (hp : s.tilt.phase = .sending f n) :
    (s.demandSent f).ModeLaw := by
  have hrecorded := modeLaw_setChannel_quiet f.drive
    { s.channel f.drive with lastSent := f.demand, sequence := (s.channel f.drive).sequence + 1 } h rfl rfl rfl
  refine modeLaw_setTilt_link hrecorded _ _ _ fun x hx => ?_
  rw [setChannel_frames]
  simpa [Tilt.frames, hp] using hx

theorem modeLaw_missExchange {s : State} (h : s.ModeLaw) (c : Channel) (d : ExchangeDefect) :
    (s.missExchange c d).ModeLaw := by
  unfold State.missExchange
  dsimp only
  have hcounted : ∀ m l, (s.setChannel c { s.channel c with misses := m, lateFeedbacks := l }).ModeLaw :=
    fun _ _ => modeLaw_setChannel_quiet c _ h rfl rfl rfl
  split
  · exact modeLaw_raise (hcounted _ _) _ _ _
  · exact hcounted _ _

/-! ## A good FEEDBACK (R94) -/

theorem modeLaw_storeFeedback {s : State} (h : s.ModeLaw) (c : Channel) (a : Int) (l : LockState) (k : Nat) :
    (s.storeFeedback c a l k).ModeLaw := modeLaw_setChannel_quiet c _ h rfl rfl rfl

theorem modeLaw_testDriveFault {s : State} (h : s.ModeLaw) (c : Channel) (old new : Nat) :
    (s.testDriveFault c old new).ModeLaw := by
  unfold State.testDriveFault
  split
  · exact modeLaw_raise h _ _ _
  · exact h

theorem modeLaw_superviseTracking {s : State} (h : s.ModeLaw) (c : Channel) (m : Int) :
    (s.superviseTracking c m).ModeLaw := by
  have hcounted : ∀ n, (s.setChannel c { s.channel c with persistence := n }).ModeLaw :=
    fun _ => modeLaw_setChannel_quiet c _ h rfl rfl rfl
  unfold State.superviseTracking
  dsimp only
  split
  case h_1 | h_2 =>
    split
    · exact hcounted _
    · split
      · exact modeLaw_raise (hcounted _) _ _ _
      · exact hcounted _
  case h_3 => exact h

/-- A channel UNLOCKING is one of an ACTIVE pair. -/
theorem active_of_unlocking {s : State} (h : s.ChannelLaw) {c : Channel} (hs : (s.channel c).state = .unlocking) :
    s.node.state = .active ∧ ∀ e, (s.channel e).state = .unlocking := by
  have hactive : s.node.state = .active := Classical.byContradiction fun hn =>
    not_unlocking_of_admits (h.admitted c) hn hs
  have hpair := h.pair hactive
  refine ⟨hactive, fun e => ?_⟩
  cases c <;> cases e <;> first | exact hs | exact hpair.trans hs | exact hpair.symm.trans hs

theorem modeLaw_completeUnlock {s : State} (h : s.ModeLaw) (hs : ∀ c, (s.channel c).state = .unlocking)
    (hn : s.node.state = .active) : s.completeUnlock.ModeLaw := by
  have hc := channelLaw_of_mode h
  have htimer : ∀ c, (s.channel c).lockTimer.isSome ≠ true := by
    intro c e
    rw [hc.lone.lockTimers, hs] at e
    cases e
  refine (modeLaw_iff _).mpr ⟨headLaw_of_same (headLaw_of_mode h) ⟨rfl, rfl⟩ rfl,
    readyLaw_of_same (readyLaw_of_mode h) rfl rfl rfl rfl, ⟨⟨fun c hm => ?_, fun c => ?_, fun c ht => ?_⟩, fun c => ?_,
      fun _ => rfl, ?_, iff_of_false Bool.false_ne_true (by simp [State.completeUnlock]), fun c _ => by cases c <;> rfl⟩,
    frameLaw_of_same h.frames rfl (fun c => by cases c <;> rfl) fun _ hf => hf⟩
  · cases c <;> cases hm
  · cases c with
    | CH1 => exact iff_of_false (htimer .CH1) (by simp [State.completeUnlock])
    | CH2 => exact iff_of_false (htimer .CH2) (by simp [State.completeUnlock])
  · cases c <;> cases ht
  · show admits s.node.state _ = true
    rw [hn]
    cases c <;> rfl
  · refine iff_of_false (fun hr => ?_) (by simp [State.completeUnlock])
    have hreturning := (hc.runout.mp hr).2
    rw [show s.tilt.ch1.state = _ from hs .CH1] at hreturning
    cases hreturning

theorem modeLaw_applyUnlocking {s : State} (h : s.ModeLaw) {c : Channel} (hs : (s.channel c).state = .unlocking)
    (l : LockState) : (s.applyUnlocking c l).ModeLaw := by
  have hc := channelLaw_of_mode h
  obtain ⟨hn, hall⟩ := active_of_unlocking hc hs
  have hmarked : ∀ m, (m = true → (s.channel c.other).mark = false) →
      (s.setChannel c { s.channel c with mark := m }).ModeLaw := fun m hm =>
    modeLaw_setChannel_of c _ h (channelLaw_setChannel c _ hc rfl rfl (fun _ => hs) hm)
  unfold State.applyUnlocking
  split
  · split
    · exact modeLaw_completeUnlock h hall hn
    · next hpartner =>
      refine hmarked true fun _ => ?_
      rw [Bool.eq_false_iff]
      exact fun hm => hpartner ⟨hall c.other, hm⟩
  · exact hmarked false fun e => absurd e Bool.false_ne_true

theorem turn_eq_zero {s : State} {x : Int} (h : s.turn x = 0) : x = 0 := by
  unfold State.turn at h
  split at h
  · exact Int.neg_eq_zero.mp h
  · exact h

/-- A channel that enters LOCKING outside ACTIVE, its demand 0. -/
theorem modeLaw_enterLocking {s : State} (h : s.ModeLaw) (c : Channel) (time : Nat) (hn : s.node.state ≠ .active)
    (hd : s.lastDemand c = 0) : (s.setChannel c ((s.channel c).enterLocking time)).ModeLaw := by
  refine modeLaw_setChannel_of c _ h (channelLaw_setChannel_rest c _ (channelLaw_of_mode h) hn ?_ rfl
    (iff_of_true rfl rfl) fun _ => hd)
  show admits s.node.state .locking = true
  cases hs : s.node.state <;> first | rfl | exact absurd hs hn

/-- Centring asks for a demand of 0, so the channel that leaves RETURNING holds none (R100). -/
theorem modeLaw_applyReturning {s : State} (h : s.ModeLaw) (c : Channel) {d : Int} (hd : d = s.turn (s.lastDemand c))
    (m : Int) : (s.applyReturning c d m).ModeLaw := by
  unfold State.applyReturning
  split
  · next hcentred =>
    obtain ⟨hn, hzero, -⟩ := hcentred
    exact modeLaw_enterLocking h c _ (by rcases hn with e | e <;> rw [e] <;> decide) (turn_eq_zero (hd.symm.trans hzero))
  · exact h

/-- A channel LOCKING, FAILED or LOCKED is in a node that is not ACTIVE, and holds no demand. -/
theorem rest_of_state {s : State} (h : s.ChannelLaw) {c : Channel}
    (hs : (s.channel c).state = .locking ∨ (s.channel c).state = .failed ∨ (s.channel c).state = .locked) :
    s.node.state ≠ .active ∧ s.lastDemand c = 0 := by
  refine ⟨fun hn => ?_, h.lone.demandZero c ?_⟩
  · have hallow := h.admitted c
    rcases hs with e | e | e <;> rw [hn, e] at hallow <;> cases hallow
  · rcases hs with e | e | e <;> rw [e] <;> rfl

theorem modeLaw_enterLocked {s : State} (h : s.ModeLaw) {c : Channel}
    (hs : (s.channel c).state = .locking ∨ (s.channel c).state = .failed) : (s.enterLocked c).ModeLaw := by
  have hc := channelLaw_of_mode h
  obtain ⟨hn, hd⟩ := rest_of_state hc (hs.imp_right .inl)
  have hmark : (s.channel c).mark = false := by
    rw [Bool.eq_false_iff]
    intro hm
    rw [hc.lone.marked c hm] at hs
    rcases hs with e | e <;> cases e
  have hlocked : (s.setChannel c { s.channel c with state := .locked, lockTimer := none }).ModeLaw := by
    refine modeLaw_setChannel_of c _ h (channelLaw_setChannel_rest c _ hc hn ?_ hmark
      (iff_of_false Bool.false_ne_true (by simp)) fun _ => hd)
    show admits s.node.state .locked = true
    cases hstate : s.node.state <;> first | rfl | exact absurd hstate hn
  unfold State.enterLocked State.tellLocked
  split
  · next hw =>
    obtain ⟨hw, hother⟩ := hw
    refine modeLaw_setNodeState hlocked (by rw [hw]; decide) (by rw [hw]; decide) (by decide) (by decide)
      (forall_channel_of_other c ?_ ?_)
    · rw [State.channel_setChannel]
      rfl
    · rw [hother]
      rfl
  · exact hlocked

theorem modeLaw_applyLocked {s : State} (h : s.ModeLaw) {c : Channel} (hs : (s.channel c).state = .locked)
    (l : LockState) : (s.applyLocked c l).ModeLaw := by
  unfold State.applyLocked
  split
  · obtain ⟨hn, hd⟩ := rest_of_state (channelLaw_of_mode h) (.inr (.inr hs))
    exact modeLaw_raise (modeLaw_enterLocking h c _ hn hd) _ _ _
  · exact h

theorem modeLaw_applyLockState {s : State} (h : s.ModeLaw) (c : Channel) (l : LockState) {d : Int}
    (hd : d = s.turn (s.lastDemand c)) (m : Int) : (s.applyLockState c l d m).ModeLaw := by
  unfold State.applyLockState
  split
  case h_1 hs => exact modeLaw_applyUnlocking h hs l
  case h_2 => exact h
  case h_3 => exact modeLaw_applyReturning h c hd m
  case h_4 hs =>
    split
    · exact modeLaw_enterLocked h (.inl hs)
    · exact h
  case h_5 hs =>
    split
    · exact modeLaw_enterLocked h (.inr hs)
    · exact h
  case h_6 hs => exact modeLaw_applyLocked h hs l

/-! ## What a good FEEDBACK leaves of the demand -/

/-- The demand of a channel in the car frame, as its DEMAND frame carries it. -/
def State.carDemand (s : State) (c : Channel) : Int := s.turn (s.lastDemand c)

theorem carDemand_raise (s : State) (cls : FaultClass) (ch : Option Channel) (d : Nat) (c : Channel) :
    (s.raise cls ch d).carDemand c = s.carDemand c := by
  rw [State.carDemand, raise_lastDemand, turn_of_head (sameHead_raise s cls ch d).1]
  rfl

theorem carDemand_setChannel (s : State) (e : Channel) (x : TiltChannel) (c : Channel) :
    (s.setChannel e x).carDemand c = s.carDemand c := by
  rw [State.carDemand, setChannel_lastDemand, turn_of_head (s := s) (by simp)]
  rfl

theorem carDemand_testDriveFault (s : State) (e : Channel) (old new : Nat) (c : Channel) :
    (s.testDriveFault e old new).carDemand c = s.carDemand c := by
  unfold State.testDriveFault
  split
  · exact carDemand_raise _ _ _ _ _
  · rfl

theorem carDemand_superviseTracking (s : State) (e : Channel) (m : Int) (c : Channel) :
    (s.superviseTracking e m).carDemand c = s.carDemand c := by
  unfold State.superviseTracking
  dsimp only
  split
  case h_1 | h_2 =>
    split
    · exact carDemand_setChannel _ _ _ _
    · split
      · rw [carDemand_raise, carDemand_setChannel]
      · exact carDemand_setChannel _ _ _ _
  case h_3 => rfl

theorem modeLaw_goodFeedback {s : State} (h : s.ModeLaw) {f : DemandFrame} (hd : f.demand = s.carDemand f.drive) (a : Int)
    (l : LockState) (k : Nat) : (s.goodFeedback f a l k).ModeLaw := by
  refine modeLaw_applyLockState (modeLaw_superviseTracking (modeLaw_testDriveFault (modeLaw_storeFeedback h _ _ _ _)
    _ _ _) _ _) _ _ (hd.trans ?_) _
  exact ((carDemand_superviseTracking _ _ _ _).trans
    ((carDemand_testDriveFault _ _ _ _ _).trans (carDemand_setChannel _ _ _ _))).symm

/-! ## The timers (R103, R122, R132, R133) -/

/-- FAILED is no state of WINDDOWN: the fault that is raised takes the node to SAFE. -/
theorem modeLaw_lockTimeout {s : State} (h : s.ModeLaw) {c : Channel} (hs : (s.channel c).state = .locking) :
    (s.lockTimeout c).ModeLaw := by
  have hc := channelLaw_of_mode h
  obtain ⟨hn, hd⟩ := rest_of_state hc (.inl hs)
  have hmark : (s.channel c).mark = false := by
    rw [Bool.eq_false_iff]
    intro hm
    have hunlocking := hc.lone.marked c hm
    rw [hs] at hunlocking
    cases hunlocking
  unfold State.lockTimeout
  refine modeLaw_raise_of (headLaw_setChannel c _ (headLaw_of_mode h)) (readyLaw_setChannel c _ (readyLaw_of_mode h))
    (loneLaw_setChannel c { s.channel c with state := .failed, lockTimer := none } hc.lone (fun hm => absurd (hmark.symm.trans hm) Bool.false_ne_true)
      (iff_of_false Bool.false_ne_true (by simp)) fun _ => hd)
    (frameLaw_setChannel c _ h.frames) _ _ _ fun hnone => ?_
  rw [State.setChannel_node] at hnone
  refine channelLaw_setChannel_rest c { s.channel c with state := .failed, lockTimer := none } hc hn ?_ hmark
    (iff_of_false Bool.false_ne_true (by simp)) fun _ => hd
  rcases hnone with e | e | e
  · cases e
  · rw [e]
    rfl
  · rw [e]
    rfl

/-- An unlock timer runs only in ACTIVE, which the fault that is raised ends. -/
theorem modeLaw_unlockTimeout {s : State} (h : s.ModeLaw) (hu : s.node.unlockTimer.isSome = true) :
    ((s.setUnlockTimer none).raise .unlockTimeout none s.markDetail).ModeLaw := by
  have hc := channelLaw_of_mode h
  have hactive : s.node.state = .active := (active_of_unlocking hc (c := .CH1) (hc.unlock.mp hu)).1
  refine modeLaw_raise_of (s := s.setUnlockTimer none) (headLaw_of_same (headLaw_of_mode h) ⟨rfl, rfl⟩ rfl)
    (readyLaw_of_same (readyLaw_of_mode h) rfl rfl rfl rfl)
    (loneLaw_of_same hc.lone (fun c => by cases c <;> exact ⟨rfl, rfl, rfl⟩) fun c => by cases c <;> rfl)
    (frameLaw_of_eq h.frames rfl rfl rfl) _ _ _ fun hnone => ?_
  rcases hnone with e | e | e
  · cases e
  all_goals
    have e : s.node.state = _ := e
    rw [hactive] at e
    cases e

theorem modeLaw_expireLiveness {s : State} (h : s.ModeLaw) : s.expireLiveness.ModeLaw := by
  have hset : ∀ v, (s.setSupervision v).ModeLaw := fun _ => modeLaw_of_eq h ⟨rfl, rfl⟩ rfl rfl rfl rfl rfl
  unfold State.expireLiveness
  split
  · exact hset _
  · unfold State.becomeLost
    split
    · exact modeLaw_raise (hset _) _ _ _
    · exact modeLaw_raise (hset _) _ _ _
    all_goals exact hset _
  · exact h

/-! ## Every step -/

theorem modeLaw_exec {c : Instr} {s t : State} (ht : exec c s = .next t) (h : s.ModeLaw) : t.ModeLaw :=
  exec_keeps (P := State.ModeLaw) (fun _ u hk h => modeLaw_setTrunk u hk h) (fun s pins _ => modeLaw_initial pins s)
    (fun _ _ _ _ ha h => modeLaw_actOn h ha) (fun _ h => modeLaw_expirePeriod h)
    (fun _ _ _ hp h => modeLaw_demandSent h hp)
    (fun _ f _ _ h => modeLaw_missExchange (modeLaw_endExchange h f) _ _)
    (fun s f _ _ _ hp h => modeLaw_goodFeedback (modeLaw_endExchange h f) (h.frames f (by simp [Tilt.frames, hp])) _ _ _)
    (fun _ _ hs h => modeLaw_lockTimeout h hs) (fun _ hu h => modeLaw_unlockTimeout h hu)
    (fun _ _ h => modeLaw_expireLiveness h) (fun _ q h => modeLaw_sampleTach h q) c s t ht h

theorem tickTimer_isSome (t : Option Nat) : (tickTimer t).isSome = t.isSome := Option.isSome_map

theorem frames_tick (s : State) : s.passTime.tilt.frames = s.tilt.frames := by
  simp only [Tilt.frames, State.passTime]
  cases s.tilt.phase <;> rfl

theorem modeLaw_passTime {s : State} (h : s.ModeLaw) : s.passTime.ModeLaw :=
  (modeLaw_iff _).mpr ⟨headLaw_of_same (headLaw_of_mode h) ⟨rfl, rfl⟩ rfl,
    readyLaw_of_same (readyLaw_of_mode h) rfl rfl rfl rfl,
    channelLaw_of_same (channelLaw_of_mode h) rfl (tickTimer_isSome _)
      (fun c => by cases c <;> exact ⟨rfl, rfl, tickTimer_isSome _⟩) (fun c => by cases c <;> rfl) rfl,
    frameLaw_of_same h.frames rfl (fun c => by cases c <;> rfl) fun _ hf => frames_tick s ▸ hf⟩

theorem modeLaw_pending {s : State} (h : s.ModeLaw) (x : List Instr) (n : Nat) :
    ({ s with pending := x, freeCount := n } : State).ModeLaw := modeLaw_of_eq h ⟨rfl, rfl⟩ rfl rfl rfl rfl rfl

theorem modeLaw_tick {s : State} (h : s.ModeLaw) : s.tick.ModeLaw := by
  obtain ⟨-, e⟩ | ⟨-, -, e⟩ | ⟨c, cs, -, -, e⟩ := tick_cases s <;> rw [e]
  · exact h
  · exact modeLaw_passTime h
  · exact modeLaw_pending h _ _

/-- Settles O43. -/
theorem stepsKeepTheModeLaw : Obligations.StepsKeepTheModeLaw := fun _ _ h hlaw =>
  step_keeps (P := State.ModeLaw) (fun s x h => modeLaw_pending h x s.freeCount) (fun _ => modeLaw_tick)
    (fun _ _ _ => modeLaw_exec) h hlaw

end Sys2Proof.Machine
end

section
/-! PROOFS. The control period: the look points (R68, R69), and what an expiry does (R66 to R80, R89, R90). -/

namespace Sys2Proof.Machine

/-! ## Look points (R17, R68, R69) -/

theorem leastOf_le (x : Int) (o : Option Int) : leastOf x o ≤ x ∧ ∀ y, o = some y → leastOf x o ≤ y := by
  cases o with
  | none => exact ⟨Int.le_refl x, by simp⟩
  | some y => exact ⟨Int.min_le_left x y, fun z hz => by cases hz; exact Int.min_le_right x y⟩

theorem leastOf_eq (x : Int) (o : Option Int) : leastOf x o = x ∨ o = some (leastOf x o) := by
  cases o with
  | none => exact .inl rfl
  | some y =>
    rcases Int.le_total x y with h | h
    · exact .inl (Int.min_eq_left h)
    · exact .inr (congrArg some (Int.min_eq_right h).symm)

theorem lookahead_forward {s : State} (hd : s.odometry.direction = .forward) (hl : 0 ≤ s.params.leadTime) :
    s.lookahead = (s.odometry.speed : Int) * s.params.leadTime / 10000 := by
  rw [State.lookahead, hd]
  exact Int.tdiv_eq_ediv_of_nonneg (Int.mul_nonneg (Int.natCast_nonneg _) hl)

theorem lookahead_backward {s : State} (hd : s.odometry.direction = .backward) : s.lookahead = 0 := by
  rw [State.lookahead, hd]

theorem leadTime_range {p : Params} (h : p.Law) : 0 ≤ p.leadTime ∧ p.leadTime ≤ 2500 :=
  (inRange_iff .leadTime _).mp (h .leadTime rfl)

theorem lookahead_range {s : State} (hp : s.params.Law) (ho : s.odometry.Law) : 0 ≤ s.lookahead ∧ s.lookahead ≤ 2500 := by
  obtain ⟨hl0, hl⟩ := leadTime_range hp
  cases hd : s.odometry.direction with
  | backward =>
    rw [lookahead_backward hd]
    decide
  | forward =>
    rw [lookahead_forward hd hl0]
    have hspeed : (s.odometry.speed : Int) ≤ 10000 := Int.ofNat_le.mpr ho.speed
    have hmul : (s.odometry.speed : Int) * s.params.leadTime ≤ 10000 * 2500 :=
      Int.mul_le_mul hspeed hl hl0 (by decide)
    have hnonneg : 0 ≤ (s.odometry.speed : Int) * s.params.leadTime := Int.mul_nonneg (Int.natCast_nonneg _) hl0
    omega

theorem channelPosition_of_head {s : State} {c : Channel} {o : Int} (ho : s.params.bogieOffset c = some o) :
    (s.trunk.headPort = some .A → s.channelPosition c = some (s.odometry.pNode + o)) ∧
      (s.trunk.headPort = some .B → s.channelPosition c = some (s.odometry.pNode - o)) := by
  rw [State.channelPosition, ho]
  exact ⟨fun h => by simp [State.turn, h], fun h => by simp [State.turn, h, Int.sub_eq_add_neg]⟩

/-- Settles O51. -/
theorem lookPointsLieAheadOfThePositions : Obligations.LookPointsLieAheadOfThePositions := by
  intro s
  obtain ⟨h1, h1'⟩ := leastOf_le s.odometry.pNode (s.channelPosition .CH1)
  obtain ⟨h2, h2'⟩ := leastOf_le (leastOf s.odometry.pNode (s.channelPosition .CH1)) (s.channelPosition .CH2)
  refine ⟨lookahead_backward, lookahead_forward, lookahead_range, rfl, fun _ => rfl,
    fun _ _ ho => channelPosition_of_head ho, fun c hc => by rw [State.channelPosition, hc]; rfl, Int.le_trans h2 h1,
    fun c x hx => ?_, ?_⟩
  · cases c with
    | CH1 => exact Int.le_trans h2 (h1' x hx)
    | CH2 => exact h2' x hx
  · rcases leastOf_eq (leastOf s.odometry.pNode (s.channelPosition .CH1)) (s.channelPosition .CH2) with h | h
    · rcases leastOf_eq s.odometry.pNode (s.channelPosition .CH1) with h' | h'
      · exact .inl (h.trans h')
      · exact .inr ⟨.CH1, h'.trans (congrArg some h.symm)⟩
    · exact .inr ⟨.CH2, h⟩

/-! ## One step of the rate limiter (R78 to R80) -/

theorem stepsTo_towards (last goal step : Int) : StepsTo last goal step (towards last goal step) := by
  unfold towards
  refine ⟨fun h => if_pos h, fun h hlt => ?_, fun h hlt => ?_⟩ <;> rw [if_neg (Int.not_le.mpr h)]
  · exact if_pos hlt
  · exact if_neg (by omega)

theorem towards_step_le (last goal : Int) {step : Int} (h : 0 ≤ step) :
    ((towards last goal step - last).natAbs : Int) ≤ step := by
  unfold towards
  split
  · assumption
  · split <;> omega

theorem towards_bound {last goal step k : Int} (hl : (last.natAbs : Int) ≤ k) (hg : (goal.natAbs : Int) ≤ k)
    (h : 0 ≤ step) : ((towards last goal step).natAbs : Int) ≤ k := by
  unfold towards
  split
  · exact hg
  · split <;> omega

/-- Truncation and flooring of a step agree under the least step of 1. -/
theorem stepOf_eq (s : State) (rate : Int) : s.stepOf rate = max 1 (rate * s.params.period / 1000) := by
  unfold State.stepOf
  rcases Int.le_total 0 (rate * s.params.period) with h | h
  · rw [Int.tdiv_eq_ediv_of_nonneg h]
  · have hfloor : rate * s.params.period / 1000 ≤ 0 := by omega
    have htrunc : (rate * s.params.period).tdiv 1000 = -(-(rate * s.params.period) / 1000) := by
      rw [← Int.tdiv_eq_ediv_of_nonneg (by omega), Int.neg_tdiv, Int.neg_neg]
    rw [Int.max_eq_left (by omega), Int.max_eq_left (by omega)]

theorem stepOf_pos (s : State) (rate : Int) : 1 ≤ s.stepOf rate := Int.le_max_left _ _

theorem period_range {p : Params} (h : p.Law) : 5 ≤ p.period ∧ p.period ≤ 50 :=
  (inRange_iff .period _).mp (h .period rfl)

theorem stepOf_mono {s : State} (h : s.params.Law) {r r' : Int} (hr : r ≤ r') : s.stepOf r ≤ s.stepOf r' := by
  rw [stepOf_eq, stepOf_eq]
  have hp := (period_range h).1
  have hquotient : r * s.params.period / 1000 ≤ r' * s.params.period / 1000 :=
    Int.ediv_le_ediv (by decide) (Int.mul_le_mul_of_nonneg_right hr (by omega))
  omega

/-! ## The view of an expiry -/

section
variable (s : State)

theorem expiryView_node : s.expiryView.node = s.node := by simp [State.expiryView]
theorem expiryView_tilt : s.expiryView.tilt = s.tilt := by simp [State.expiryView]
theorem expiryView_odometry : s.expiryView.odometry = s.odometry := by simp [State.expiryView]
theorem expiryView_trunk : s.expiryView.trunk = s.trunk := by simp [State.expiryView]
theorem expiryView_supervision : s.expiryView.supervision = s.supervision := by simp [State.expiryView]

theorem expiryView_generator : s.expiryView.generator =
    { s.generator with timer := s.params.period.toNat * 1000, period := s.params.period.toNat } := by
  simp [State.expiryView, State.startPeriod, micros]

theorem expiryView_tables : s.expiryView.tables =
    if s.tables.swapPending then { s.tables with active := s.tables.active.other, swapPending := false } else s.tables := by
  rw [State.expiryView, (State.retire_frame s.startPeriod.completeSwap).2.2.1, State.completeSwap]
  cases hp : s.tables.swapPending <;> simp [hp]

theorem expiryView_window : s.expiryView.window = { s.window with
    segments := if s.odometry.aligned then
        s.window.segments.dropWhile (fun g => decide (((g.start + g.length : Nat) : Int) ≤ s.rearReference))
      else s.window.segments } := by
  have hrest : s.startPeriod.completeSwap.odometry = s.odometry ∧ s.startPeriod.completeSwap.window = s.window ∧
      s.startPeriod.completeSwap.node = s.node ∧ s.startPeriod.completeSwap.trunk = s.trunk := by simp
  obtain ⟨ho, hw, hn, htr⟩ := hrest
  have hrear : s.startPeriod.completeSwap.rearReference = s.rearReference := by
    simp only [State.rearReference, State.channelPosition, State.turn, State.params, ho, hn, htr]
  rw [State.expiryView, State.retire, ho, hrear]
  split
  · rw [State.setWindow_window, hw]
    rfl
  · exact hw

theorem expiryView_lastDemand (c : Channel) : s.expiryView.lastDemand c = s.lastDemand c := by
  cases c <;> simp only [State.lastDemand, expiryView_generator]

theorem expiryView_channel (c : Channel) : s.expiryView.channel c = s.channel c :=
  channel_of_tilt (expiryView_tilt s) c

theorem expiryView_params : s.expiryView.params = s.params := congrArg NodeControl.params (expiryView_node s)

theorem expiryView_turn (x : Int) : s.expiryView.turn x = s.turn x := turn_of_head (by rw [expiryView_trunk]) x

theorem expiryView_lookahead : s.expiryView.lookahead = s.lookahead := by
  simp only [State.lookahead, expiryView_odometry, expiryView_params]

theorem expiryView_nodeLookPoint : s.expiryView.nodeLookPoint = s.nodeLookPoint := by
  simp only [State.nodeLookPoint, expiryView_odometry, expiryView_lookahead]

theorem expiryView_lookPoint (c : Channel) : s.expiryView.lookPoint c = s.lookPoint c := by
  simp only [State.lookPoint, State.channelPosition, expiryView_params, expiryView_odometry, expiryView_turn,
    expiryView_lookahead]

theorem expiryView_stepOf (rate : Int) : s.expiryView.stepOf rate = s.stepOf rate := by
  simp only [State.stepOf, expiryView_params]

theorem expirePeriod_eq : s.expirePeriod = s.expiryView.formDemands.startExchanges := rfl

theorem exec_expiry {s : State} (hr : s.pins.rstN = true) : exec .controlPeriodExpiry s = .next s.expirePeriod :=
  event_high State.expirePeriod s hr

theorem expirePeriod_generator : s.expirePeriod.generator = s.expiryView.formDemands.generator := rfl
theorem expirePeriod_window : s.expirePeriod.window = s.expiryView.formDemands.window := rfl

theorem expirePeriod_channel (c : Channel) : s.expirePeriod.channel c = s.expiryView.formDemands.channel c := by
  cases c <;> rfl

theorem expirePeriod_lastDemand (c : Channel) : s.expirePeriod.lastDemand c = s.expiryView.formDemands.lastDemand c := by
  cases c <;> rfl
end

/-! ## The three cases of an expiry (R71 to R73) -/

/-- The channels are the pair of an ACTIVE node that tracks, or that has returned for runout. -/
def State.Deciding (s : State) : Prop :=
  s.ActivePair .tracking ∨ s.ActivePair .returning ∧ s.generator.runout = true

theorem activePair_iff (s : State) (x : ChannelState) :
    s.ActivePair x ↔ s.node.state = .active ∧ ∀ c, (s.channel c).state = x :=
  ⟨fun ⟨hn, h1, h2⟩ => ⟨hn, fun c => by cases c <;> assumption⟩, fun ⟨hn, h⟩ => ⟨hn, h .CH1, h .CH2⟩⟩

theorem pairTracking_iff_activePair (s : State) : s.pairTracking = true ↔ s.ActivePair .tracking := by
  rw [pairTracking_iff, activePair_iff]

theorem pairInRunout_iff_activePair (s : State) :
    s.pairInRunout = true ↔ s.ActivePair .returning ∧ s.generator.runout = true := by
  rw [pairInRunout_iff, activePair_iff]

/-- The route is covered where the pair decides: both track. -/
theorem formDemands_covered {s : State} (hd : s.Deciding) (hc : s.routeCovered = true) : s.formDemands = s.trackPair := by
  rw [State.Deciding, ← pairTracking_iff_activePair, ← pairInRunout_iff_activePair] at hd
  unfold State.formDemands
  rw [if_pos hc, if_pos hc]
  rcases hd with h | h
  · exact if_pos h
  · rw [if_pos h, ite_self]

/-- The route is not covered: both return for runout, which is counted where they tracked. -/
theorem formDemands_uncovered {s : State} (hd : s.Deciding) (hc : ¬s.routeCovered = true) :
    s.formDemands = if s.tilt.ch1.state = .tracking then s.returnPair.countRunout else s.returnPair := by
  unfold State.formDemands
  rw [if_neg hc, if_neg hc]
  rcases hd with ht | hret
  · rw [if_pos ((pairTracking_iff_activePair s).mpr ht), if_pos ht.2.1]
  · have hstate : s.tilt.ch1.state ≠ .tracking := by
      rw [hret.1.2.1]
      decide
    rw [if_neg fun h => hstate ((pairTracking_iff_activePair s).mp h).2.1,
      if_pos ((pairInRunout_iff_activePair s).mpr hret), if_neg hstate]

/-- A channel outside such a pair keeps its state and takes the demand of its state. -/
theorem formDemands_rest {s : State} (hd : ¬s.Deciding) :
    s.formDemands = s.setDemands (s.restDemand .CH1) (s.restDemand .CH2) := by
  rw [State.Deciding, ← pairTracking_iff_activePair, ← pairInRunout_iff_activePair, not_or] at hd
  unfold State.formDemands
  rw [if_neg hd.1, if_neg hd.2]

theorem expiryView_activePair (s : State) (x : ChannelState) : s.expiryView.ActivePair x ↔ s.ActivePair x := by
  simp only [State.ActivePair, expiryView_node, expiryView_tilt]

theorem expiryView_deciding (s : State) : s.expiryView.Deciding ↔ s.Deciding := by
  simp only [State.Deciding, expiryView_activePair, expiryView_generator]

theorem routeCovered_iff (s : State) :
    s.routeCovered = true ↔ s.window.covered s.nodeLookPoint = true ∧
      ∀ c, ∃ x, s.lookPoint c = some x ∧ s.window.covered x = true := by
  simp only [State.routeCovered, Bool.and_eq_true, Option.any_eq_true]
  exact ⟨fun ⟨⟨h, h1⟩, h2⟩ => ⟨h, fun c => by cases c <;> assumption⟩, fun ⟨h, hc⟩ => ⟨⟨h, hc .CH1⟩, hc .CH2⟩⟩

section
variable (s : State) (c : Channel)

theorem setDemands_lastDemand (f : Channel → Int) : (s.setDemands (f .CH1) (f .CH2)).lastDemand c = f c := by
  cases c <;> rfl

theorem setDemands_channel (d1 d2 : Int) : (s.setDemands d1 d2).channel c = s.channel c := by cases c <;> rfl

theorem trackPair_lastDemand : s.trackPair.lastDemand c = s.trackingDemand c := setDemands_lastDemand _ c _
theorem trackPair_state : (s.trackPair.channel c).state = .tracking := by cases c <;> rfl
theorem returnPair_lastDemand : s.returnPair.lastDemand c = s.returningDemand c := setDemands_lastDemand _ c _
theorem returnPair_state : (s.returnPair.channel c).state = .returning := by cases c <;> rfl
end

theorem returningDemand_expiryView (s : State) (c : Channel) :
    s.expiryView.returningDemand c = towards (s.lastDemand c) 0 (s.stepOf s.params.returnRate) := by
  rw [State.returningDemand, State.returningStep, expiryView_lastDemand, expiryView_stepOf, expiryView_params]

theorem stepsTo_returning (s : State) (c : Channel) :
    StepsTo (s.lastDemand c) 0 (max 1 (s.params.returnRate * s.params.period / 1000))
      (s.expiryView.returningDemand c) := by
  rw [returningDemand_expiryView, ← stepOf_eq]
  exact stepsTo_towards _ _ _

/-! ## What every expiry does (R38, R65 to R67, R89, R90) -/

theorem formDemands_window (s : State) :
    s.formDemands.window = { s.window with runouts := s.formDemands.window.runouts } := by
  unfold State.formDemands
  (repeat' split) <;> rfl

theorem formDemands_tilt (s : State) :
    s.formDemands.tilt = { s.tilt with
      ch1 := { s.tilt.ch1 with state := s.formDemands.tilt.ch1.state }
      ch2 := { s.tilt.ch2 with state := s.formDemands.tilt.ch2.state } } := by
  unfold State.formDemands
  (repeat' split) <;> rfl

theorem formDemands_timer (s : State) :
    s.formDemands.generator.timer = s.generator.timer ∧ s.formDemands.generator.period = s.generator.period := by
  unfold State.formDemands
  (repeat' split) <;> exact ⟨rfl, rfl⟩

theorem expirePeriod_window_eq (s : State) : s.expirePeriod.window = { s.window with
    segments := if s.odometry.aligned then
        s.window.segments.dropWhile (fun g => decide (((g.start + g.length : Nat) : Int) ≤ s.rearReference))
      else s.window.segments
    runouts := s.expirePeriod.window.runouts } := by
  have h := formDemands_window s.expiryView
  rw [expiryView_window] at h
  exact h

/-- The lock request of a channel state as TABLE 5-IV words it. -/
def requestOf : ChannelState → LockRequest
  | .locked => .engage
  | .locking => .engage
  | .failed => .engage
  | .unlocking => .release
  | .tracking => .release
  | .returning => .release

theorem lockRequest_eq (x : ChannelState) : x.lockRequest = requestOf x := by cases x <;> rfl

theorem expirePeriod_tilt (s : State) : s.expirePeriod.tilt = { s.tilt with
    ch1 := { s.tilt.ch1 with state := s.expirePeriod.tilt.ch1.state }
    ch2 := { s.tilt.ch2 with state := s.expirePeriod.tilt.ch2.state }
    phase := .sending
      { drive := .CH1, sequence := s.tilt.ch1.sequence, demand := s.turn s.expirePeriod.generator.last1
        lock := requestOf s.expirePeriod.tilt.ch1.state } 100
    waiting := some
      { drive := .CH2, sequence := s.tilt.ch2.sequence, demand := s.turn s.expirePeriod.generator.last2
        lock := requestOf s.expirePeriod.tilt.ch2.state }
    window := none } := by
  have htilt := formDemands_tilt s.expiryView
  rw [expiryView_tilt] at htilt
  have hframe : ∀ c, s.expiryView.formDemands.demandFrame c =
      { drive := c, sequence := (s.channel c).sequence, demand := s.turn (s.expirePeriod.lastDemand c)
        lock := requestOf (s.expirePeriod.channel c).state } := by
    intro c
    rw [State.demandFrame, lockRequest_eq, expirePeriod_channel, expirePeriod_lastDemand]
    have hsequence : (s.expiryView.formDemands.channel c).sequence = (s.channel c).sequence := by
      cases c <;> rw [State.channel, htilt] <;> rfl
    rw [hsequence, turn_of_head (s := s) (by simp [State.expiryView])]
  have h1 := hframe .CH1
  have h2 := hframe .CH2
  rw [expirePeriod_eq, State.startExchanges, State.setTilt_tilt, h1, h2, Tilt.startExchange]
  conv => lhs; rw [htilt]
  rfl

/-- Settles O52. -/
theorem expiryRunsTheControlPeriod : Obligations.ExpiryRunsTheControlPeriod := by
  intro s hr
  obtain ⟨htimer, hperiod⟩ := formDemands_timer s.expiryView
  rw [expiryView_generator] at htimer hperiod
  refine ⟨_, exec_expiry hr, by simp, by simp, by simp, by simp, by simp, htimer, hperiod, ?tables,
    expirePeriod_window_eq s, expirePeriod_tilt s, fun ht hret => ?rest⟩
  case tables =>
    rw [← expiryView_tables]
    simp [expirePeriod_eq]
  case rest =>
    have hd : ¬s.expiryView.Deciding := by
      rw [expiryView_deciding]
      exact fun hd => hd.elim ht hret
    have hrest := formDemands_rest hd
    refine ⟨?_, ?_, fun c => ⟨?_, fun hs => ?_, fun hs => ?_⟩⟩
    · rw [expirePeriod_window, hrest, (State.setDemands_frame _ _ _).2.2.1, expiryView_window]
    · rw [expirePeriod_generator, hrest]
      exact (congrArg Generator.runout (expiryView_generator s) :)
    · rw [expirePeriod_channel, hrest, setDemands_channel, expiryView_channel]
    all_goals rw [expirePeriod_lastDemand, hrest, setDemands_lastDemand, State.restDemand, expiryView_channel]
    · rw [hs]
      exact stepsTo_returning s c
    · rcases hs with e | e | e | e <;> rw [e]

/-! ## The pair that tracks or runs out (R23, R71 to R73, R76 to R80) -/

theorem covered_iff (w : RouteWindow) (x : Int) : w.covered x = true ↔ ∃ g, w.at x = some g := Option.isSome_iff_exists

/-- A limit that applies on a condition. -/
theorem min_if_spec (p : Prop) [Decidable p] (k l : Int) :
    (if p then min k l else k) ≤ k ∧ (p → (if p then min k l else k) ≤ l) ∧
      ((if p then min k l else k) = k ∨ p ∧ (if p then min k l else k) = l) := by
  by_cases hp : p
  · rw [if_pos hp]
    refine ⟨Int.min_le_left k l, fun _ => Int.min_le_right k l, ?_⟩
    rcases Int.le_total k l with h | h
    · exact .inl (Int.min_eq_left h)
    · exact .inr ⟨hp, Int.min_eq_right h⟩
  · simp [hp]

/-- The cap is one of the limits that apply, and below each (R23). -/
theorem cap_spec (s : State) (g : Segment) :
    s.cap g ≤ s.params.authority ∧ (∀ l, g.tiltLimit = some l → s.cap g ≤ l) ∧ (g.inhibit = true → s.cap g ≤ 0) ∧
      (s.supervision.stage = .stale → s.cap g ≤ s.params.staleLimit) ∧
      (s.cap g = s.params.authority ∨ g.tiltLimit.map (fun l => (l : Int)) = some (s.cap g) ∨
        (g.inhibit = true ∧ s.cap g = 0) ∨ (s.supervision.stage = .stale ∧ s.cap g = s.params.staleLimit)) := by
  obtain ⟨hle, hlimit⟩ := leastOf_le s.params.authority (g.tiltLimit.map (fun l => (l : Int)))
  have heq := leastOf_eq s.params.authority (g.tiltLimit.map (fun l => (l : Int)))
  have hlimit : ∀ l, g.tiltLimit = some l → leastOf s.params.authority (g.tiltLimit.map (fun l => (l : Int))) ≤ l :=
    fun l hl => hlimit l (by rw [hl]; rfl)
  unfold State.cap
  generalize leastOf s.params.authority (g.tiltLimit.map (fun l => (l : Int))) = k at hle hlimit heq ⊢
  obtain ⟨h1, h1', h1e⟩ := min_if_spec (g.inhibit = true) k 0
  dsimp only
  generalize (if g.inhibit = true then min k 0 else k) = k1 at h1 h1' h1e ⊢
  obtain ⟨h2, h2', h2e⟩ := min_if_spec (s.supervision.stage = .stale) k1 s.params.staleLimit
  generalize (if s.supervision.stage = .stale then min k1 s.params.staleLimit else k1) = k2 at h2 h2' h2e ⊢
  refine ⟨Int.le_trans h2 (Int.le_trans h1 hle), fun l hl => Int.le_trans h2 (Int.le_trans h1 (hlimit l hl)),
    fun hi => Int.le_trans h2 (h1' hi), h2', ?_⟩
  rcases h2e with rfl | hstale
  · rcases h1e with rfl | hi
    · exact heq.imp_right .inl
    · exact .inr (.inr (.inl hi))
  · exact .inr (.inr (.inr hstale))

theorem expiryView_cap (s : State) (g : Segment) : s.expiryView.cap g = s.cap g := by
  simp only [State.cap, expiryView_params, expiryView_supervision]

/-- The tracking step is that of a rate: the lesser of ROLL_RATE and the segment's limit (R78). -/
theorem trackingStep_spec (s : State) (g : Segment) :
    ∃ rate : Int, s.trackingStep g = max 1 (rate * s.params.period / 1000) ∧ (g.rateLimit = none → rate = s.params.rollRate) ∧
      ∀ l, g.rateLimit = some l → rate = min s.params.rollRate l := by
  refine ⟨_, stepOf_eq _ _, fun h => ?_, fun l h => ?_⟩ <;> rw [h] <;> rfl

/-- The tracking demand with the segments that cover the look points (R76, R79). -/
theorem trackingDemand_covered {s : State} {c : Channel} {gc gn : Segment} {x : Int}
    (hc : s.window.at s.nodeLookPoint = some gc) (hx : s.lookPoint c = some x) (hn : s.window.at x = some gn) :
    s.trackingDemand c = towards (s.lastDemand c) (s.rawDemand gc gn x) (s.trackingStep gc) := by
  simp only [State.trackingDemand, hc, hx, hn]

theorem rawDemand_expiryView (s : State) (gc gn : Segment) (x : Int) :
    s.expiryView.rawDemand gc gn x =
      rawOf (gc.target s.expiryView.tables.activeBank (s.expiryView.tables.activeBank.band s.odometry.speed) s.nodeLookPoint)
        (gc.cantAt s.nodeLookPoint) (gn.cantAt x) (s.cap gc) := by
  simp only [State.rawDemand, expiryView_cap, expiryView_odometry, expiryView_nodeLookPoint]
  rfl

theorem trackingStep_expiryView (s : State) (g : Segment) : s.expiryView.trackingStep g = s.trackingStep g := by
  simp only [State.trackingStep, expiryView_params, expiryView_stepOf]

/-- A pair that decides, with the route covered. -/
theorem expirePeriod_covered {s : State} (hd : s.Deciding) (hc : s.expiryView.routeCovered = true) :
    s.expirePeriod.generator.runout = false ∧ s.expirePeriod.window.runouts = s.window.runouts ∧
      ∀ c, (s.expirePeriod.channel c).state = .tracking ∧
        s.expirePeriod.lastDemand c = s.expiryView.trackingDemand c := by
  have htrack := formDemands_covered ((expiryView_deciding s).mpr hd) hc
  refine ⟨?_, ?_, fun c => ⟨?_, ?_⟩⟩
  · rw [expirePeriod_generator, htrack]
    rfl
  · rw [expirePeriod_window, htrack]
    exact (congrArg RouteWindow.runouts (expiryView_window s) :)
  · rw [expirePeriod_channel, htrack, trackPair_state]
  · rw [expirePeriod_lastDemand, htrack, trackPair_lastDemand]

/-- A pair that decides, with the route not covered. -/
theorem expirePeriod_uncovered {s : State} (hd : s.Deciding) (hc : ¬s.expiryView.routeCovered = true) :
    s.expirePeriod.generator.runout = true ∧
      s.expirePeriod.window.runouts =
        (if s.tilt.ch1.state = .tracking then min 65535 (s.window.runouts + 1) else s.window.runouts) ∧
      ∀ c, (s.expirePeriod.channel c).state = .returning ∧
        s.expirePeriod.lastDemand c = s.expiryView.returningDemand c := by
  have hreturn := formDemands_uncovered ((expiryView_deciding s).mpr hd) hc
  rw [expiryView_tilt] at hreturn
  have hcount : s.expiryView.window.runouts = s.window.runouts := by rw [expiryView_window]
  simp only [expirePeriod_generator, expirePeriod_window, expirePeriod_channel, expirePeriod_lastDemand, hreturn]
  split
  · refine ⟨rfl, ?_, fun c => ⟨?_, ?_⟩⟩
    · rw [← hcount]
      rfl
    · cases c <;> rfl
    · cases c <;> rfl
  · exact ⟨rfl, hcount, fun c => ⟨returnPair_state _ c, returnPair_lastDemand _ c⟩⟩

/-- The coverage of the three look points, in the view and at the points before the expiry. -/
theorem expiryView_routeCovered (s : State) :
    s.expiryView.routeCovered = true ↔ s.expiryView.window.covered s.nodeLookPoint = true ∧
      ∀ c, ∃ x, s.lookPoint c = some x ∧ s.expiryView.window.covered x = true := by
  rw [routeCovered_iff, expiryView_nodeLookPoint]
  simp only [expiryView_lookPoint]

/-- Settles O53. -/
theorem expiryTracksTheRouteOrRunsOut : Obligations.ExpiryTracksTheRouteOrRunsOut := by
  intro s hr hd
  refine ⟨_, exec_expiry hr, fun hcovered => ?covered, fun huncovered => ?uncovered⟩
  case covered =>
    obtain ⟨hrun, hcount, hpair⟩ := expirePeriod_covered hd ((expiryView_routeCovered s).mpr hcovered)
    refine ⟨hrun, hcount, fun c => ?_⟩
    obtain ⟨hstate, hdemand⟩ := hpair c
    obtain ⟨hcar, hlook⟩ := hcovered
    obtain ⟨gc, hgc⟩ := (covered_iff _ _).mp hcar
    obtain ⟨x, hx, hcx⟩ := hlook c
    obtain ⟨gn, hgn⟩ := (covered_iff _ _).mp hcx
    refine ⟨hstate, gc, gn, x, s.cap gc, s.trackingStep gc, hgc, hx, hgn, cap_spec s gc, trackingStep_spec s gc, ?_⟩
    rw [hdemand, trackingDemand_covered (by rwa [expiryView_nodeLookPoint]) (by rwa [expiryView_lookPoint]) hgn,
      rawDemand_expiryView, trackingStep_expiryView, expiryView_lastDemand]
    exact stepsTo_towards _ _ _
  case uncovered =>
    obtain ⟨hrun, hcount, hpair⟩ := expirePeriod_uncovered hd
      fun hc => huncovered ((expiryView_routeCovered s).mp hc)
    refine ⟨hrun, hcount, fun c => ⟨(hpair c).1, ?_⟩⟩
    rw [(hpair c).2]
    exact stepsTo_returning s c

end Sys2Proof.Machine
end

section
/-! PROOFS. Demands: what moves one (R81), their bound by AUTHORITY (R79), and the laws at reset. -/

namespace Sys2Proof.Machine

/-! ## What leaves the demands as they are -/

/-- The demands held stand, no DEMAND frame is formed, and AUTHORITY changes only where both demands are 0. -/
structure State.DemandsStand (s t : State) : Prop where
  demands : ∀ c, t.lastDemand c = s.lastDemand c
  frames : ∀ f ∈ t.tilt.frames, f ∈ s.tilt.frames
  authority : t.params.authority = s.params.authority ∨ ∀ c, s.lastDemand c = 0

theorem demandsStand_refl (s : State) : s.DemandsStand s := ⟨fun _ => rfl, fun _ h => h, .inl rfl⟩

theorem demandsStand_trans {s t u : State} (h : s.DemandsStand t) (h' : t.DemandsStand u) : s.DemandsStand u where
  demands c := (h'.demands c).trans (h.demands c)
  frames f hf := h.frames f (h'.frames f hf)
  authority := by
    rcases h.authority with e | hz
    · rcases h'.authority with e' | hz
      · exact .inl (e'.trans e)
      · exact .inr fun c => (h.demands c).symm.trans (hz c)
    · exact .inr hz

theorem demandsStand_of_eq {s t : State} (hg : t.generator = s.generator) (ht : t.tilt = s.tilt)
    (hp : t.params.authority = s.params.authority) : s.DemandsStand t :=
  ⟨lastDemand_of_generator hg, fun _ hf => ht ▸ hf, .inl hp⟩

theorem struck_tilt_frames (s : State) (cls : FaultClass) : (s.struck cls).tilt.frames = s.tilt.frames := by
  obtain ⟨e, -⟩ | ⟨e, -⟩ := struck_cases s cls <;> rw [e]
  rfl

theorem demandsStand_raise (s : State) (cls : FaultClass) (ch : Option Channel) (d : Nat) :
    s.DemandsStand (s.raise cls ch d) where
  demands := raise_lastDemand s cls ch d
  frames := by
    rw [raise_tilt, struck_tilt_frames]
    exact fun _ h => h
  authority := .inl (by simp)

/-- A fault raised on what leaves the demands. -/
theorem demandsStand_then_raise {s t : State} (h : s.DemandsStand t) (cls : FaultClass) (ch : Option Channel) (d : Nat) :
    s.DemandsStand (t.raise cls ch d) := demandsStand_trans h (demandsStand_raise t cls ch d)

theorem demandsStand_setChannel (s : State) (c : Channel) (x : TiltChannel) : s.DemandsStand (s.setChannel c x) where
  demands := setChannel_lastDemand c x
  frames := by
    rw [setChannel_frames]
    exact fun _ h => h
  authority := .inl (by simp)

theorem demandsStand_standDown (s : State) (n : NodeState) : s.DemandsStand (s.standDown n) :=
  ⟨fun c => by cases c <;> rfl, fun _ h => h, .inl rfl⟩

/-! ## Odometry, broadcasts and ENUMERATE -/

theorem demandsStand_sampleTach (s : State) (pair : Bool × Bool) : s.DemandsStand (s.sampleTach pair) := by
  have hquiet : ∀ o, s.DemandsStand (s.setOdometry o) := fun _ => demandsStand_of_eq rfl rfl rfl
  have hcount : ∀ b, s.DemandsStand ((s.setPhase pair).count b) := fun b =>
    demandsStand_of_eq (by simp) (by simp) (by simp)
  unfold State.sampleTach State.phaseFault
  dsimp only
  split
  · exact hquiet _
  · split
    · exact demandsStand_refl s
    · split
      · exact hcount _
      · split
        · exact hcount _
        · split
          · exact demandsStand_then_raise (hquiet _) _ _ _
          · exact hquiet _

theorem activateFactor_authority (s : State) : s.activateFactor.params.authority = s.params.authority := by
  unfold State.activateFactor
  split <;> rfl

theorem demandsStand_updatePosition (s : State) (q : Int) (fix : Bool) : s.DemandsStand (s.updatePosition q fix) := by
  have hactivated : ∀ o, s.DemandsStand (s.setOdometry o).activateFactor := fun o =>
    demandsStand_of_eq (by simp) (by simp) (activateFactor_authority _)
  have hquiet : ∀ o, s.DemandsStand (s.setOdometry o) := fun _ => demandsStand_of_eq rfl rfl rfl
  unfold State.updatePosition State.discrepancy
  dsimp only
  split
  · split
    · exact hactivated _
    · exact hquiet _
  · split
    · exact hactivated _
    · split
      · exact demandsStand_then_raise (hquiet _) _ _ _
      · exact hquiet _

theorem demandsStand_takePosition (s : State) (b : PositionBody) : s.DemandsStand (s.takePosition b) := by
  have haccepted : ∀ d, s.DemandsStand (s.acceptPosition b d) := fun _ => demandsStand_of_eq rfl rfl rfl
  unfold State.takePosition State.applyPosition
  split
  · exact demandsStand_refl s
  · dsimp only
    split
    · split
      · exact demandsStand_trans (haccepted _) (demandsStand_updatePosition _ _ _)
      · exact haccepted _
    · exact demandsStand_of_eq rfl rfl rfl

theorem demandsStand_takeSegment (s : State) (b : SegmentBody) : s.DemandsStand (s.takeSegment b) := by
  have hquiet : ∀ w, s.DemandsStand (s.setWindow w) := fun _ => demandsStand_of_eq rfl rfl rfl
  unfold State.takeSegment State.refuseSegment
  dsimp only
  split
  · exact demandsStand_refl s
  · split
    · exact hquiet _
    · exact demandsStand_then_raise (hquiet _) _ _ _
  · exact hquiet _

theorem renumber_authority (s : State) (p : Port) (n : Nat) : (s.renumber p n).params.authority = s.params.authority := by
  unfold State.renumber
  dsimp only
  (repeat' split) <;> rfl

theorem unnumber_authority (s : State) : s.unnumber.params.authority = s.params.authority := by
  unfold State.unnumber
  dsimp only
  split <;> rfl

theorem demandsStand_takeEnumerate (s : State) (p : Port) (n : Byte) : s.DemandsStand (s.takeEnumerate p n) := by
  have hrenumbered : s.DemandsStand (s.renumber p n.toNat) :=
    demandsStand_of_eq (by simp) (by simp) (renumber_authority _ _ _)
  have hbeyond : s.DemandsStand s.beyondSixteen := by
    unfold State.beyondSixteen
    split
    · exact demandsStand_raise _ _ _ _
    · exact demandsStand_then_raise (demandsStand_of_eq (by simp) (by simp) (unnumber_authority s)) _ _ _
  unfold State.takeEnumerate
  split
  · exact demandsStand_refl s
  · split
    any_goals exact demandsStand_raise _ _ _ _
    all_goals
      split
      · exact hrenumbered
      · exact hbeyond

/-! ## PARAM and the commands -/

theorem set_authority (p : Params) (v : Int) {i : ParamId} (hi : i ≠ .authority) : (p.set v i).authority = p.authority :=
  get_set_other p v i (j := .authority) hi.symm

/-- AUTHORITY is written in STANDBY alone, where both demands are 0. -/
theorem demandsStand_writeParam {s : State} (h : s.ModeLaw) {i : ParamId} (hw : i.writable s.node.state = true) (v : Int) :
    s.DemandsStand (s.writeParam i v) := by
  have hgt : (s.writeParam i v).generator = s.generator ∧ (s.writeParam i v).tilt = s.tilt := by simp
  refine ⟨lastDemand_of_generator hgt.1, fun f hf => hgt.2 ▸ hf, ?_⟩
  by_cases hi : i = .authority
  · subst hi
    have hn : s.node.state = .standby := by simpa [ParamId.writable, ParamId.standbyOnly] using hw
    exact .inr (demands_zero_of_rest (channelLaw_of_mode h) (.inr hn))
  · left
    have hset := set_authority s.params v hi
    unfold State.writeParam
    split
    · split
      · rfl
      · exact hset
    · exact hset
    · exact hset

theorem demandsStand_ack (s : State) (kind : Byte) (tag : Half) (r : Byte) (d : Option Nat) :
    s.DemandsStand (s.ack kind tag r d) := demandsStand_of_eq rfl rfl rfl

theorem demandsStand_takeParam {s : State} (h : s.ModeLaw) (tag : Half) (ident : Byte) (v : Word) :
    s.DemandsStand (s.takeParam tag ident v) := by
  unfold State.takeParam
  split
  · exact demandsStand_ack _ _ _ _ _
  · split
    · exact demandsStand_ack _ _ _ _ _
    · next hw =>
      split
      · exact demandsStand_ack _ _ _ _ _
      · exact demandsStand_trans (demandsStand_writeParam h (by simpa using hw) _) (demandsStand_ack _ _ _ _ _)

/-- A RESET is taken with both channels LOCKED, their demands 0. -/
theorem demandsStand_takeReset {s : State} (h : s.ModeLaw) (tag : Half) : s.DemandsStand (s.takeReset tag) := by
  have hack : ∀ r d, s.DemandsStand (s.ackCommand tag r d) := fun _ _ => demandsStand_ack _ _ _ _ _
  have hreset : s.bothIn .locked = true → s.DemandsStand (s.ackCommand tag resultOk none).commandReset := by
    intro hb
    have hzero : ∀ c, s.lastDemand c = 0 := fun c => h.demandZero c (by rw [(bothIn_iff s _).mp hb c]; rfl)
    exact ⟨fun c => by rw [hzero]; cases c <;> rfl, by simp [State.commandReset, Tilt.frames, Tilt.initial], .inr hzero⟩
  unfold State.takeReset
  split
  case h_1 | h_2 =>
    split
    · next hb => exact hreset hb
    · exact hack _ _
  all_goals exact hack _ _

theorem demandsStand_takeCommand {s : State} (h : s.ModeLaw) (tag : Half) (code : Byte) :
    s.DemandsStand (s.takeCommand tag code) := by
  have hack : ∀ r d, s.DemandsStand (s.ackCommand tag r d) := fun _ _ => demandsStand_ack _ _ _ _ _
  unfold State.takeCommand
  split
  · unfold State.takeEnable
    split
    case h_1 =>
      split
      · exact hack _ _
      · exact ⟨fun c => by cases c <;> rfl, fun _ hf => hf, .inl rfl⟩
    all_goals exact hack _ _
  · unfold State.takeDisable
    split
    case h_1 => exact demandsStand_trans (demandsStand_standDown s .winddown) (demandsStand_ack _ _ _ _ _)
    all_goals exact hack _ _
  · unfold State.takeRelease
    split
    case h_1 =>
      split
      · exact demandsStand_of_eq rfl rfl rfl
      · exact hack _ _
    all_goals exact hack _ _
  · unfold State.takeClearFaults
    split
    case h_5 => exact hack _ _
    all_goals exact demandsStand_of_eq rfl rfl rfl
  · exact demandsStand_takeReset h tag
  · exact hack _ _

theorem demandsStand_actOn {s : State} (h : s.ModeLaw) (p : Port) (x : Telegram) : s.DemandsStand (actOn p x s) := by
  rcases hb : x.body with _ | b
  · simpa [actOn, hb] using demandsStand_refl s
  rw [actOn_of_body hb]
  cases b with
  | position b => exact demandsStand_takePosition s b
  | segment b => exact demandsStand_takeSegment s b
  | enumerate n => exact demandsStand_takeEnumerate s p n
  | param i v => exact demandsStand_takeParam h x.tag i v
  | command c => exact demandsStand_takeCommand h x.tag c
  | _ => exact demandsStand_of_eq (by simp [actOnBody]) (by simp [actOnBody]) (by simp [actOnBody])

/-! ## The drive link and the timers -/

theorem endExchange_channels (t : Tilt) (f : DemandFrame) : (t.endExchange f).ch1 = t.ch1 ∧ (t.endExchange f).ch2 = t.ch2 := by
  unfold Tilt.endExchange
  split <;> exact ⟨rfl, rfl⟩

theorem endExchange_frames (t : Tilt) (f : DemandFrame) : ∀ x ∈ (t.endExchange f).frames, x ∈ t.frames := by
  unfold Tilt.endExchange
  split
  · next g _ hw => exact fun x hx => by simp_all [Tilt.frames]
  · simp [Tilt.frames]

theorem demandsStand_endExchange (s : State) (f : DemandFrame) : s.DemandsStand (s.setTilt (s.tilt.endExchange f)) :=
  ⟨fun c => by cases c <;> rfl, endExchange_frames _ _, .inl rfl⟩

theorem demandsStand_demandSent {s : State} {f : DemandFrame} {n : Nat} (hp : s.tilt.phase = .sending f n) :
    s.DemandsStand (s.demandSent f) where
  demands := lastDemand_of_generator (by simp)
  frames x hx := by
    simp only [State.demandSent, Tilt.frames, State.setTilt_tilt, State.setChannel_waiting] at hx
    simpa [Tilt.frames, hp] using hx
  authority := .inl (by simp)

theorem demandsStand_missExchange (s : State) (c : Channel) (d : ExchangeDefect) : s.DemandsStand (s.missExchange c d) := by
  unfold State.missExchange
  dsimp only
  split
  · exact demandsStand_then_raise (demandsStand_setChannel _ _ _) _ _ _
  · exact demandsStand_setChannel _ _ _

theorem demandsStand_testDriveFault (s : State) (c : Channel) (old new : Nat) :
    s.DemandsStand (s.testDriveFault c old new) := by
  unfold State.testDriveFault
  split
  · exact demandsStand_raise _ _ _ _
  · exact demandsStand_refl s

theorem demandsStand_superviseTracking (s : State) (c : Channel) (m : Int) : s.DemandsStand (s.superviseTracking c m) := by
  unfold State.superviseTracking
  dsimp only
  split
  case h_1 | h_2 =>
    split
    · exact demandsStand_setChannel _ _ _
    · split
      · exact demandsStand_then_raise (demandsStand_setChannel _ _ _) _ _ _
      · exact demandsStand_setChannel _ _ _
  case h_3 => exact demandsStand_refl s

theorem demandsStand_enterLocked (s : State) (c : Channel) : s.DemandsStand (s.enterLocked c) := by
  have hlocked := demandsStand_setChannel s c { s.channel c with state := .locked, lockTimer := none }
  unfold State.enterLocked State.tellLocked
  split
  · exact demandsStand_trans hlocked (demandsStand_of_eq rfl rfl rfl)
  · exact hlocked

theorem demandsStand_applyLockState (s : State) (c : Channel) (l : LockState) (d m : Int) :
    s.DemandsStand (s.applyLockState c l d m) := by
  have hset : ∀ x, s.DemandsStand (s.setChannel c x) := demandsStand_setChannel s c
  unfold State.applyLockState
  split
  · unfold State.applyUnlocking
    split
    · split
      · exact ⟨fun c => by cases c <;> rfl, fun _ hf => hf, .inl rfl⟩
      · exact hset _
    · exact hset _
  · exact demandsStand_refl s
  · unfold State.applyReturning
    split
    · exact hset _
    · exact demandsStand_refl s
  · split
    · exact demandsStand_enterLocked s c
    · exact demandsStand_refl s
  · split
    · exact demandsStand_enterLocked s c
    · exact demandsStand_refl s
  · unfold State.applyLocked
    split
    · exact demandsStand_then_raise (hset _) _ _ _
    · exact demandsStand_refl s

theorem demandsStand_goodFeedback (s : State) (f : DemandFrame) (a : Int) (l : LockState) (k : Nat) :
    s.DemandsStand (s.goodFeedback f a l k) :=
  demandsStand_trans (demandsStand_setChannel s f.drive _) (demandsStand_trans (demandsStand_testDriveFault _ _ _ _)
    (demandsStand_trans (demandsStand_superviseTracking _ _ _) (demandsStand_applyLockState _ _ _ _ _)))

theorem demandsStand_expireLiveness (s : State) : s.DemandsStand s.expireLiveness := by
  have hset : ∀ v, s.DemandsStand (s.setSupervision v) := fun _ => demandsStand_of_eq rfl rfl rfl
  unfold State.expireLiveness
  split
  · exact hset _
  · unfold State.becomeLost
    split
    · exact demandsStand_then_raise (hset _) _ _ _
    · exact demandsStand_then_raise (hset _) _ _ _
    all_goals exact hset _
  · exact demandsStand_refl s

/-! ## Every row but the expiry and the two of the pin -/

theorem demandsStand_arrive {s : State} (hr : s.pins.rstN = true) (h : s.ModeLaw) (p : Port) (x : Telegram) :
    s.DemandsStand (s.arrive p x (actOn p x)) := by
  refine (arrive_keeps (P := fun u => u.ModeLaw ∧ s.DemandsStand u) (fun u k hk hu => ?_) p x _ (fun u _ ha hu => ?_) s hr
    ⟨h, demandsStand_refl s⟩).2
  · exact ⟨modeLaw_setTrunk k hk hu.1, demandsStand_trans hu.2 (demandsStand_of_eq rfl rfl rfl)⟩
  · exact ⟨modeLaw_actOn hu.1 ha, demandsStand_trans hu.2 (demandsStand_actOn hu.1 p x)⟩

theorem demandsStand_effect {c : Instr} {s t : State} (hr : s.pins.rstN = true) (hc : Effect s c t) (h : s.ModeLaw)
    (hexp : c ≠ .controlPeriodExpiry) (hlow : c ≠ .resetAsserted) (hpon : ∀ x y, c ≠ .powerOnReset x y) :
    s.DemandsStand t := by
  cases hc with
  | powerOn x y => exact absurd rfl (hpon x y)
  | low => exact absurd rfl hlow
  | expiry => exact absurd rfl hexp
  | port | rejects => exact demandsStand_of_eq rfl rfl rfl
  | arrives => exact demandsStand_arrive hr h _ _
  | idle => exact demandsStand_refl s
  | tach x y => exact demandsStand_sampleTach s _
  | sent hp => exact demandsStand_demandSent hp
  | missed => exact demandsStand_trans (demandsStand_endExchange s _) (demandsStand_missExchange _ _ _)
  | fed => exact demandsStand_trans (demandsStand_endExchange s _) (demandsStand_goodFeedback _ _ _ _ _)
  | lockTimeout c _ => exact demandsStand_then_raise (demandsStand_setChannel s c _) _ _ _
  | unlockTimeout _ =>
    have hstopped : s.DemandsStand (s.setUnlockTimer none) := demandsStand_of_eq rfl rfl rfl
    exact demandsStand_then_raise hstopped _ _ _
  | liveness _ => exact demandsStand_expireLiveness s

theorem demandsStand_exec {c : Instr} {s t : State} (ht : exec c s = .next t) (h : s.ModeLaw)
    (hexp : c ≠ .controlPeriodExpiry) (hlow : c ≠ .resetAsserted) (hpon : ∀ x y, c ≠ .powerOnReset x y) :
    s.DemandsStand t := by
  cases hr : s.pins.rstN with
  | true => exact demandsStand_effect hr (effect_of_exec hr ht) h hexp hlow hpon
  | false =>
    rw [exec_low hr hpon hlow] at ht
    cases ht
    exact demandsStand_refl s

theorem demandsStand_tick (s : State) : s.DemandsStand s.tick := by
  obtain ⟨-, e⟩ | ⟨-, -, e⟩ | ⟨c, cs, -, -, e⟩ := tick_cases s <;> rw [e]
  · exact demandsStand_refl s
  · exact ⟨fun c => by cases c <;> rfl, fun _ hf => frames_tick s ▸ hf, .inl rfl⟩
  · exact demandsStand_of_eq rfl rfl rfl

end Sys2Proof.Machine
end

section
/-! PROOFS. The bound of the demands through every step (R79, R90), their step of one period (R81), and the laws at
reset. -/

namespace Sys2Proof.Machine

/-! ## The bound of a demand formed (R23, R76, R79) -/

theorem clip_bound {k : Int} (hk : 0 ≤ k) (x : Int) : ((clip k x).natAbs : Int) ≤ k := by
  unfold clip
  omega

theorem authority_range {p : Params} (h : p.Law) : 0 ≤ p.authority ∧ p.authority ≤ 100 :=
  (inRange_iff .authority _).mp (h .authority rfl)

theorem staleLimit_range {p : Params} (h : p.Law) : 0 ≤ p.staleLimit ∧ p.staleLimit ≤ 100 :=
  (inRange_iff .staleLimit _).mp (h .staleLimit rfl)

theorem cap_nonneg {s : State} (h : s.params.Law) (g : Segment) : 0 ≤ s.cap g := by
  obtain ⟨-, -, -, -, he⟩ := cap_spec s g
  rcases he with e | e | ⟨-, e⟩ | ⟨-, e⟩
  · rw [e]
    exact (authority_range h).1
  · cases hl : g.tiltLimit with
    | none =>
      rw [hl] at e
      cases e
    | some l =>
      rw [hl] at e
      rw [← Option.some.inj e]
      exact Int.natCast_nonneg l
  · exact Int.le_of_eq e.symm
  · rw [e]
    exact (staleLimit_range h).1

theorem rawDemand_bound {s : State} (h : s.params.Law) (gc gn : Segment) (x : Int) :
    ((s.rawDemand gc gn x).natAbs : Int) ≤ s.params.authority :=
  Int.le_trans (clip_bound (cap_nonneg h gc) _) (cap_spec s gc).1

section
variable {s : State} (h : s.params.Law) (hb : ∀ c, ((s.lastDemand c).natAbs : Int) ≤ s.params.authority) (c : Channel)
include h hb

theorem returningDemand_bound : ((s.returningDemand c).natAbs : Int) ≤ s.params.authority :=
  towards_bound (hb c) (authority_range h).1 (Int.le_of_lt (stepOf_pos s _))

theorem trackingDemand_bound : ((s.trackingDemand c).natAbs : Int) ≤ s.params.authority := by
  unfold State.trackingDemand
  split
  · split
    · exact towards_bound (hb c) (rawDemand_bound h _ _ _) (Int.le_of_lt (stepOf_pos s _))
    · exact hb c
  · exact hb c

theorem restDemand_bound : ((s.restDemand c).natAbs : Int) ≤ s.params.authority := by
  unfold State.restDemand
  split
  · exact returningDemand_bound h hb c
  · exact hb c
  all_goals exact (authority_range h).1

theorem formDemands_bound : ((s.formDemands.lastDemand c).natAbs : Int) ≤ s.params.authority := by
  by_cases hd : s.Deciding
  · by_cases hc : s.routeCovered = true
    · rw [formDemands_covered hd hc, trackPair_lastDemand]
      exact trackingDemand_bound h hb c
    · have hreturn : s.formDemands.lastDemand c = s.returningDemand c := by
        rw [formDemands_uncovered hd hc]
        split <;> exact returnPair_lastDemand s c
      rw [hreturn]
      exact returningDemand_bound h hb c
  · rw [formDemands_rest hd, setDemands_lastDemand]
    exact restDemand_bound h hb c
end

/-! ## The law of the demands -/

theorem natAbs_turn (s : State) (x : Int) : (s.turn x).natAbs = x.natAbs := by
  unfold State.turn
  split
  · exact Int.natAbs_neg x
  · rfl

/-- The frames carry the demands held, so their bound is that of the demands. -/
theorem demandLaw_of_bound {s : State} (hm : s.ModeLaw) (hr : s.RangeLaw)
    (hb : ∀ c, ((s.lastDemand c).natAbs : Int) ≤ s.params.authority)
    (he : ∀ f ∈ s.tilt.frames, f.lock = .engage → f.demand = 0) : s.DemandLaw :=
  ⟨hm, hr.1, hr.2, hb, fun f hf => by rw [hm.frames f hf, natAbs_turn]; exact hb f.drive, he⟩

theorem demandLaw_of_stand {s t : State} (h : s.DemandLaw) (hst : s.DemandsStand t) (hm : t.ModeLaw) (hr : t.RangeLaw) :
    t.DemandLaw := by
  refine demandLaw_of_bound hm hr (fun c => ?_) fun f hf => h.engaged f (hst.frames f hf)
  rw [hst.demands]
  rcases hst.authority with e | hz
  · rw [e]
    exact h.bound c
  · rw [hz]
    exact (authority_range hr.1).1

theorem rangeLaw_of_demand {s : State} (h : s.DemandLaw) : s.RangeLaw := ⟨h.params, h.odometry⟩

theorem demandLaw_powerOn (pins : Pins) (s : State) : (s.powerOn pins).DemandLaw := by
  refine demandLaw_of_bound (modeLaw_initial pins s) ⟨paramsLaw_initial, odometryLaw_initial⟩ (fun c => ?_) ?_
  · have hzero : (s.powerOn pins).lastDemand c = 0 := by cases c <;> rfl
    rw [hzero]
    exact (authority_range paramsLaw_initial).1
  · simp [State.powerOn, Tilt.frames, Tilt.initial]

theorem tilts_of_engage {x : ChannelState} (h : x.lockRequest = .engage) : x.tilts = false := by
  cases x <;> first | rfl | cases h

/-- A frame that requests ENGAGE is that of a channel without tilt, which holds 0 (TABLE 4-II, R90). -/
theorem demandLaw_expirePeriod {s : State} (h : s.DemandLaw) : s.expirePeriod.DemandLaw := by
  have hm := modeLaw_expirePeriod h.mode
  refine demandLaw_of_bound hm (rangeLaw_of_eq (rangeLaw_of_demand h) (by simp) (by simp)) (fun c => ?_) fun f hf he => ?_
  · rw [expirePeriod_lastDemand, (State.expirePeriod_frame s).2.2.2.2.2.2.2]
    have hbound := formDemands_bound (s := s.expiryView) (by rw [expiryView_params]; exact h.params)
      (fun e => by rw [expiryView_lastDemand, expiryView_params]; exact h.bound e) c
    rwa [expiryView_params] at hbound
  · have hf' : f ∈ [s.expiryView.formDemands.demandFrame .CH1, s.expiryView.formDemands.demandFrame .CH2] := hf
    have hlock : f.lock = (s.expirePeriod.channel f.drive).state.lockRequest := by
      rw [List.mem_cons, List.mem_singleton] at hf'
      rcases hf' with rfl | rfl <;> rfl
    rw [hm.frames f hf, hm.demandZero f.drive (tilts_of_engage (hlock.symm.trans he)), turn_zero]

theorem demandLaw_exec {c : Instr} {s t : State} (ht : exec c s = .next t) (h : s.DemandLaw) : t.DemandLaw := by
  by_cases hpon : ∃ x y, c = .powerOnReset x y
  · obtain ⟨x, y, rfl⟩ := hpon
    cases ht
    exact demandLaw_powerOn _ s
  by_cases hlow : c = .resetAsserted
  · subst hlow
    cases ht
    exact demandLaw_powerOn _ s
  by_cases hexp : c = .controlPeriodExpiry
  · subst hexp
    cases hr : s.pins.rstN with
    | true =>
      rw [exec_expiry hr] at ht
      cases ht
      exact demandLaw_expirePeriod h
    | false =>
      rw [exec_low hr (by simp) (by simp)] at ht
      cases ht
      exact h
  · exact demandLaw_of_stand h (demandsStand_exec ht h.mode hexp hlow fun x y e => hpon ⟨x, y, e⟩)
      (modeLaw_exec ht h.mode) (rangeLaw_exec ht (rangeLaw_of_demand h))

/-- Settles O55. -/
theorem stepsKeepTheDemandLaw : Obligations.StepsKeepTheDemandLaw := fun _ _ h hlaw =>
  step_keeps (P := State.DemandLaw)
    (fun s x h => demandLaw_of_stand h (demandsStand_of_eq rfl rfl rfl) (modeLaw_pending h.mode x s.freeCount)
      (rangeLaw_of_eq (rangeLaw_of_demand h) rfl rfl))
    (fun _ h => demandLaw_of_stand h (demandsStand_tick _) (modeLaw_tick h.mode) (rangeLaw_tick (rangeLaw_of_demand h)))
    (fun _ _ _ => demandLaw_exec) h hlaw

/-! ## One step of an expiry (R81) -/

/-- An expiry by which a channel tracks: its pair decides and the route is covered. -/
theorem covered_of_tracking {s : State} (h : s.ModeLaw) {c : Channel} (ht : (s.expirePeriod.channel c).state = .tracking) :
    s.Deciding ∧ s.expiryView.routeCovered = true := by
  have hd : s.Deciding := Classical.byContradiction fun hd => by
    have hrest := formDemands_rest (fun hv => hd ((expiryView_deciding s).mp hv))
    rw [expirePeriod_channel, hrest, setDemands_channel, expiryView_channel] at ht
    have hc := channelLaw_of_mode h
    have hn : s.node.state = .active := by
      have hallow := hc.admitted c
      rw [ht] at hallow
      cases hn : s.node.state <;> rw [hn] at hallow <;> first | rfl | cases hallow
    have hpair := hc.pair hn
    refine hd (.inl ((activePair_iff s _).mpr ⟨hn, fun e => ?_⟩))
    cases c <;> cases e <;> first | exact ht | exact hpair.trans ht | exact hpair.symm.trans ht
  refine ⟨hd, Classical.byContradiction fun hc => ?_⟩
  rw [((expirePeriod_uncovered hd hc).2.2 c).1] at ht
  cases ht

/-- The tracking step is within that of ROLL_RATE, and within that of the segment's limit (R78). -/
theorem trackingStep_le {s : State} (h : s.params.Law) (g : Segment) :
    s.trackingStep g ≤ max 1 (s.params.rollRate * s.params.period / 1000) ∧
      ∀ l, g.rateLimit = some l → s.trackingStep g ≤ max 1 ((l : Int) * s.params.period / 1000) := by
  obtain ⟨hle, hlimit⟩ := leastOf_le s.params.rollRate (g.rateLimit.map (fun l => (l : Int)))
  refine ⟨?_, fun l hl => ?_⟩ <;> rw [← stepOf_eq]
  · exact stepOf_mono h hle
  · exact stepOf_mono h (hlimit l (by rw [hl]; rfl))

theorem expirePeriod_tracking_step {s : State} (h : s.ModeLaw) {c : Channel}
    (ht : (s.expirePeriod.channel c).state = .tracking) :
    ∃ g, s.expiryView.window.at s.nodeLookPoint = some g ∧
      ((s.expirePeriod.lastDemand c - s.lastDemand c).natAbs : Int) ≤ s.trackingStep g := by
  obtain ⟨hd, hc⟩ := covered_of_tracking h ht
  obtain ⟨hcar, hlook⟩ := (expiryView_routeCovered s).mp hc
  obtain ⟨gc, hgc⟩ := (covered_iff _ _).mp hcar
  obtain ⟨x, hx, hcx⟩ := hlook c
  obtain ⟨gn, hgn⟩ := (covered_iff _ _).mp hcx
  refine ⟨gc, hgc, ?_⟩
  rw [((expirePeriod_covered hd hc).2.2 c).2, trackingDemand_covered (by rwa [expiryView_nodeLookPoint])
    (by rwa [expiryView_lookPoint]) hgn, trackingStep_expiryView, expiryView_lastDemand]
  exact towards_step_le _ _ (Int.le_of_lt (stepOf_pos s _))

theorem expirePeriod_other_step {s : State} (h : s.ModeLaw) {c : Channel}
    (ht : (s.expirePeriod.channel c).state ≠ .tracking) :
    ((s.expirePeriod.lastDemand c - s.lastDemand c).natAbs : Int) ≤
      max 1 (s.params.returnRate * s.params.period / 1000) := by
  rw [← stepOf_eq]
  have hstep : 0 ≤ s.stepOf s.params.returnRate := Int.le_of_lt (stepOf_pos s _)
  have hreturn : ((s.expiryView.returningDemand c - s.lastDemand c).natAbs : Int) ≤ s.stepOf s.params.returnRate := by
    rw [returningDemand_expiryView]
    exact towards_step_le _ _ hstep
  by_cases hd : s.Deciding
  · by_cases hc : s.expiryView.routeCovered = true
    · exact absurd ((expirePeriod_covered hd hc).2.2 c).1 ht
    · rwa [((expirePeriod_uncovered hd hc).2.2 c).2]
  · have hrest := formDemands_rest (fun hv => hd ((expiryView_deciding s).mp hv))
    rw [expirePeriod_channel, hrest, setDemands_channel, expiryView_channel] at ht
    rw [expirePeriod_lastDemand, hrest, setDemands_lastDemand, State.restDemand, expiryView_channel]
    have hzero : (s.channel c).state.tilts = false → ((0 - s.lastDemand c).natAbs : Int) ≤ s.stepOf s.params.returnRate :=
      fun htilts => by rw [h.demandZero c htilts]; exact hstep
    split
    · exact hreturn
    · next e => exact absurd e ht
    all_goals
      next e => exact hzero (by rw [e]; rfl)

/-- Settles O54: an expiry by `expirePeriod_tracking_step` and `expirePeriod_other_step`, every other step by
`demandsStand_exec`. -/
theorem demandsMoveByOneStep : Obligations.DemandsMoveByOneStep := by
  refine ⟨fun s t c hm hp ht => ?expiry, fun s t c hm ht hother => ?others⟩
  case expiry =>
    cases hr : s.pins.rstN with
    | true =>
      rw [exec_expiry hr] at ht
      cases ht
      refine ⟨fun htrack _ => ?_, expirePeriod_other_step hm⟩
      obtain ⟨g, hg, hle⟩ := expirePeriod_tracking_step hm htrack
      obtain ⟨hroll, hlimit⟩ := trackingStep_le hp g
      exact ⟨g, hg, Int.le_trans hle hroll, fun l hl => Int.le_trans hle (hlimit l hl)⟩
    | false =>
      rw [exec_low hr (by simp) (by simp)] at ht
      cases ht
      refine ⟨fun _ hhigh => absurd hhigh Bool.false_ne_true, fun _ => ?_⟩
      rw [Int.sub_self, ← stepOf_eq]
      exact Int.le_of_lt (stepOf_pos s _)
  case others =>
    obtain ⟨-, rfl⟩ | ⟨i, rest, hpending, hexec⟩ := step_cases ht
    · exact (demandsStand_tick s).demands c
    · obtain ⟨hexp, hlow, hpon⟩ := hother i rest hpending
      have hstand := demandsStand_exec hexec (modeLaw_pending hm rest s.freeCount) hexp hlow hpon
      exact (hstand.demands c).trans (by cases c <;> rfl)

/-! ## The laws at reset -/

/-- Settles O60. -/
theorem lawsHoldAtReset : Obligations.LawsHoldAtReset :=
  ⟨trunkLaw_initial, windowLaw_initial, tablesLaw_initial, paramsLaw_initial, odometryLaw_initial, supervisionLaw_initial,
    modeLaw_initial State.reset.pins State.reset, demandLaw_powerOn State.reset.pins State.reset⟩

end Sys2Proof.Machine
end

section
/-! PROOFS. The commands of Node Control (R113 to R121) and ENUMERATE (R154 to R158). -/

namespace Sys2Proof.Machine

/-! ## The commands -/

section
variable {s : State} {a : Arrival} (h : s.Delivers a)
include h

theorem exec_disable_delivered : exec (.disable a) s = .next ((s.taken a.port).takeDisable a.tag) :=
  exec_delivered h (.command 2) rfl rfl rfl

theorem exec_release_delivered : exec (.release a) s = .next ((s.taken a.port).takeRelease a.tag) :=
  exec_delivered h (.command 3) rfl rfl rfl

theorem exec_clearFaults_delivered : exec (.clearFaults a) s = .next ((s.taken a.port).takeClearFaults a.tag) :=
  exec_delivered h (.command 4) rfl rfl rfl

theorem exec_reset_delivered : exec (.reset a) s = .next ((s.taken a.port).takeReset a.tag) :=
  exec_delivered h (.command 5) rfl rfl rfl
end

/-- The ACK of a COMMAND whose act leaves the Trunk Unit as the telegram left it. -/
theorem ackCommand_of_taken {s u : State} {a : Arrival} (h : u.trunk = s.trunk.endReceiving a.port) (result : Byte)
    (detail : Option Nat) : u.ackCommand a.tag result detail = { u with trunk := s.acked a 22 result detail } :=
  ack_of_taken h 22 result detail

theorem enableObstacle_none {s : State} (hp : s.ParamsMet) (hb : s.BankMet) (ho : s.PositionMet) (hr : s.RouteMet)
    (hd : s.DrivesMet) : s.enableObstacle = none := by
  simp [enableObstacle_eq, hp, hb, ho, hr, hd]

/-- Settles O37. -/
theorem enableIsAccepted : Obligations.EnableIsAccepted := by
  intro a s h hn hp1 hp2 hp3 hp4 hbank haligned hfresh hcar hlook hdrives
  have hnone : s.enableObstacle = none :=
    enableObstacle_none ⟨hp1, hp2, hp3, hp4⟩ hbank ⟨haligned, hfresh⟩ ⟨hcar, hlook⟩ hdrives
  rw [exec_enable_delivered h, State.takeEnable, taken_node, hn, enableObstacle_taken, hnone]
  exact congrArg _ (ackCommand_of_taken rfl _ _)

/-- Settles O39. -/
theorem disableStartsWinddown : Obligations.DisableStartsWinddown := by
  intro a s h
  rw [exec_disable_delivered h, State.takeDisable, taken_node]
  refine ⟨fun hn => ?active, fun hn => ?refused⟩
  case active =>
    rw [hn]
    refine ⟨_, congrArg _ (ackCommand_of_taken rfl _ _), rfl, fun c => ?_⟩
    have hchannel : ({ (s.taken a.port).standDown .winddown with trunk := s.acked a 22 resultOk none } : State).channel c =
        (s.standDown .winddown).channel c := by cases c <;> rfl
    rw [hchannel]
    exact standDown_moves s .winddown c
  case refused =>
    rcases hn with hn | hn | hn <;> rw [hn] <;> exact congrArg _ (ackCommand_of_taken rfl _ _)

theorem taken_bothIn (s : State) (p : Port) (x : ChannelState) : (s.taken p).bothIn x = s.bothIn x := rfl

theorem bothIn_of_forall {s : State} {x : ChannelState} (h : ∀ c, (s.channel c).state = x) : s.bothIn x = true :=
  (bothIn_iff s x).mpr h

theorem not_bothIn_of_exists {s : State} {x : ChannelState} (h : ∃ c, (s.channel c).state ≠ x) : ¬s.bothIn x = true := by
  obtain ⟨c, hc⟩ := h
  exact fun hb => hc ((bothIn_iff s x).mp hb c)

/-- Settles O40. -/
theorem releaseAndClearFaults : Obligations.ReleaseAndClearFaults := by
  intro a s h
  rw [exec_release_delivered h, exec_clearFaults_delivered h, State.takeRelease, State.takeClearFaults, taken_node,
    taken_bothIn]
  refine ⟨fun hn hl => ?released, fun hn hl => ?notReady, fun hn => ?badState, fun hn => ?cleared⟩
  case released =>
    rw [hn]
    dsimp only
    rw [if_pos (bothIn_of_forall hl)]
    exact congrArg _ (ackCommand_of_taken rfl _ _)
  case notReady =>
    rw [hn]
    dsimp only
    rw [if_neg (not_bothIn_of_exists hl)]
    exact congrArg _ (ackCommand_of_taken rfl _ _)
  case badState =>
    rcases hn with hn | hn | hn <;> rw [hn] <;> exact congrArg _ (ackCommand_of_taken rfl _ _)
  case cleared =>
    have hcleared : (s.taken a.port).clearFaults.ackCommand a.tag resultOk none =
        { s with
          supervision := { s.supervision with faults := [], overflow := false, overflowCount := 0 }
          trunk := s.acked a 22 0 none } := ackCommand_of_taken rfl _ _
    cases hs : s.node.state with
    | offline => exact absurd hs hn
    | _ => exact congrArg _ hcleared

/-- Settles O41. -/
theorem resetCommandRestoresTheBlocks : Obligations.ResetCommandRestoresTheBlocks := by
  intro a s h
  rw [exec_reset_delivered h, State.takeReset, taken_node, taken_bothIn]
  refine ⟨fun hn hl => ?reset, fun hn hl => ?notReady, fun hn => ?badState⟩
  case reset =>
    rcases hn with hn | hn
    all_goals
      rw [hn]
      dsimp only
      rw [if_pos (bothIn_of_forall hl), ackCommand_of_taken (s := s) rfl]
      rfl
  case notReady =>
    rcases hn with hn | hn
    all_goals
      rw [hn]
      dsimp only
      rw [if_neg (not_bothIn_of_exists hl)]
      exact congrArg _ (ackCommand_of_taken rfl _ _)
  case badState =>
    rcases hn with hn | hn <;> rw [hn] <;> exact congrArg _ (ackCommand_of_taken rfl _ _)

/-! ## ENUMERATE (TABLE 8-V) -/

/-- An ENUMERATE is acted on from either side and with an unknown head port (TABLE 8-IV). -/
theorem route_enumerate (t : Trunk) (p : Port) (n : Byte) {a : Arrival} (ha : a.dest = 0) :
    t.route p ((Body.enumerate n).telegram a) = .act := by
  have hdest : ((Body.enumerate n).telegram a).dest = 0 := ha
  have henum : isEnumerate ((Body.enumerate n).telegram a) = true := by
    rw [isEnumerate, hdest]
    rfl
  unfold Trunk.route
  split
  · rw [if_pos henum]
  · split
    · rw [Trunk.routeFromHead, if_pos hdest]
      rfl
    · rw [routeFromTail, if_neg (by rw [hdest]; decide), if_pos henum]

theorem exec_enumerate_live {s : State} {a : Arrival} (h : s.Live a.port) (ha : a.dest = 0) (n : Byte) :
    exec (.enumerate a n) s = .next (((s.taken a.port).takeEnumerate a.port n).thenForwards a.port
      ((Body.enumerate (nextAddress s.node.state n)).telegram a)) := by
  obtain ⟨hr, hup⟩ := h
  have hforward : forwardedForm s.node.state ((Body.enumerate n).telegram a) =
      (Body.enumerate (nextAddress s.node.state n)).telegram a := by
    have henum : isEnumerate ((Body.enumerate n).telegram a) = true := by
      rw [isEnumerate, show ((Body.enumerate n).telegram a).dest = 0 from ha]
      rfl
    rw [forwardedForm, if_pos henum]
    rfl
  rw [exec_of_arrivalOf (c := .enumerate a n) rfl, event_high _ _ hr, State.arrive, Trunk.isUp, hup, if_pos (by decide),
    if_pos (by rfl), State.routeGood, route_enumerate _ _ _ ha, actOn_of_body (body_of_telegram (.enumerate n) a)]
  rw [← hforward]
  rfl

/-- The next-address that a node sends on (TABLE 8-V). -/
theorem nextAddress_taken {n : NodeState} (hn : n = .offline ∨ n = .standby) {x : Byte} (h1 : 1 ≤ x.toNat)
    (h16 : x.toNat ≤ 16) : nextAddress n x = x + 1 := by
  have hx : x ≠ 0 := by rintro rfl; exact absurd h1 (by decide)
  unfold nextAddress
  rw [if_neg hx]
  rcases hn with rfl | rfl <;> exact if_pos h16

theorem nextAddress_beyond {n : NodeState} (hn : n = .offline ∨ n = .standby) {x : Byte} (h17 : 17 ≤ x.toNat) :
    nextAddress n x = x := by
  have hx : x ≠ 0 := by rintro rfl; exact absurd h17 (by decide)
  unfold nextAddress
  rw [if_neg hx]
  rcases hn with rfl | rfl <;> exact if_neg (Nat.not_le.mpr h17)

theorem nextAddress_refused {n : NodeState} (hn : ¬(n = .offline ∨ n = .standby)) {x : Byte} (hx : x ≠ 0) :
    nextAddress n x = if x = 255 then 255 else x + 1 := by
  unfold nextAddress
  rw [if_neg hx]
  cases n <;> simp_all

section
variable {s : State} (p : Port) {n : Byte}

theorem takeEnumerate_taken (hn : s.node.state = .offline ∨ s.node.state = .standby) (h1 : 1 ≤ n.toNat)
    (h16 : n.toNat ≤ 16) : s.takeEnumerate p n = s.renumber p n.toNat := by
  have hx : n ≠ 0 := by rintro rfl; exact absurd h1 (by decide)
  rw [State.takeEnumerate, if_neg hx]
  rcases hn with hn | hn <;> rw [hn] <;> exact if_pos h16

theorem takeEnumerate_beyond (hn : s.node.state = .offline ∨ s.node.state = .standby) (h17 : 17 ≤ n.toNat) :
    s.takeEnumerate p n = s.beyondSixteen := by
  have hx : n ≠ 0 := by rintro rfl; exact absurd h17 (by decide)
  rw [State.takeEnumerate, if_neg hx]
  rcases hn with hn | hn <;> rw [hn] <;> exact if_neg (Nat.not_le.mpr h17)

theorem takeEnumerate_refused (hn : ¬(s.node.state = .offline ∨ s.node.state = .standby)) (hx : n ≠ 0) :
    s.takeEnumerate p n = s.raise .enumeration none 2 := by
  rw [State.takeEnumerate, if_neg hx]
  cases hs : s.node.state <;> simp_all
end

/-- The address and the head port taken, by whether the head port and the address change (R155, R156). -/
theorem renumber_eq (s : State) (p : Port) (n : Nat) :
    s.renumber p n =
      { s with
        trunk := { (if s.trunk.headPort ≠ some p then s.trunk.discardOwn else s.trunk) with
          headPort := some p, address := some n }
        window := if s.trunk.headPort ≠ some p then
            s.window.afterWithdrawal []
              { requested := .all, id := none, performed := .all, removed := s.window.segments.length }
          else s.window
        node := { s.node with
          state := .standby
          params := if s.trunk.headPort ≠ some p ∨ s.trunk.address ≠ some n then
              { s.params with carOffsetValid := false }
            else s.params }
        odometry := if s.trunk.headPort ≠ some p ∨ s.trunk.address ≠ some n then
            { s.odometry with aligned := false, discrepancies := 0 }
          else s.odometry } := by
  unfold State.renumber
  dsimp only
  by_cases hp : s.trunk.headPort ≠ some p
  · rw [if_pos hp, if_pos (.inl hp), if_pos hp, if_pos hp, if_pos (.inl hp), if_pos (.inl hp)]
    rfl
  · rw [if_neg hp, if_neg hp, if_neg hp]
    split <;> rfl

/-- The address and the head port cleared (R157). -/
theorem unnumber_eq (s : State) :
    s.unnumber =
      { s with
        trunk := { s.trunk.discardOwn with headPort := none, address := none }
        node := { s.node with
          state := .offline
          params := if s.trunk.headPort ≠ none ∨ s.trunk.address ≠ none then { s.params with carOffsetValid := false }
            else s.params }
        odometry := if s.trunk.headPort ≠ none ∨ s.trunk.address ≠ none then
            { s.odometry with aligned := false, discrepancies := 0 }
          else s.odometry } := by
  unfold State.unnumber
  simp only [Option.isSome_iff_ne_none]
  split <;> rfl

/-- Settles O42: the rows of TABLE 8-V. -/
theorem enumerateFollowsItsTable : Obligations.EnumerateFollowsItsTable := by
  intro a n s h ha
  have hexec := exec_enumerate_live h ha n
  refine ⟨fun hz => ?zero, fun hn h1 h16 => ?taken, fun hn h17 => ?standby, fun hn h17 => ?offline, fun hn hz => ?refused⟩
  case zero =>
    subst hz
    rw [hexec]
    rfl
  case taken =>
    rw [hexec, nextAddress_taken hn h1 h16, takeEnumerate_taken (s := s.taken a.port) _ hn h1 h16, renumber_eq, taken_head,
      taken_address]
    rfl
  case standby =>
    rw [hexec, nextAddress_beyond (.inr hn) h17, takeEnumerate_beyond (s := s.taken a.port) _ (.inr hn) h17,
      State.beyondSixteen, taken_node, if_neg (by rw [hn]; decide), unnumber_eq, taken_head, taken_address]
    rfl
  case offline =>
    rw [hexec, nextAddress_beyond (.inl hn) h17, takeEnumerate_beyond (s := s.taken a.port) _ (.inl hn) h17,
      State.beyondSixteen, taken_node, if_pos hn]
  case refused =>
    rw [hexec, nextAddress_refused hn hz, takeEnumerate_refused (s := s.taken a.port) _ hn hz]

end Sys2Proof.Machine
end

section
/-! PROOFS. The drive link: the exchanges and their defects (R89 to R93), good FEEDBACKs (R94 to R107), and the lock and
unlock timers (R103, R122). -/

namespace Sys2Proof.Machine

/-! ## Frames judged (TABLE 5-III) -/

theorem exists_seven {chars : List LineChar} (h : chars.length = 7) :
    ∃ c1 c2 c3 c4 c5 c6 c7, chars = [c1, c2, c3, c4, c5, c6, c7] := by
  match chars, h with
  | [c1, c2, c3, c4, c5, c6, c7], _ => exact ⟨c1, c2, c3, c4, c5, c6, c7, rfl⟩

theorem judgeFrame_short {chars : List LineChar} (f : DemandFrame) (h : chars.length < 7) :
    judgeFrame f chars = .error .short := by
  unfold judgeFrame
  split
  · simp at h
  · exact if_pos h

theorem judgeFrame_long {chars : List LineChar} (f : DemandFrame) (h : 7 < chars.length) :
    judgeFrame f chars = .error .long := by
  unfold judgeFrame
  split
  · simp at h
  · exact if_neg (by omega)

section
variable (f : DemandFrame) (c1 c2 c3 c4 c5 c6 c7 : LineChar)

/-- The check of seven characters, as `judgeFrame` words it. -/
theorem failsFrameCheck_seven : failsFrameCheck [c1, c2, c3, c4, c5, c6, c7] ↔
    (([c1, c2, c3, c4, c5, c6, c7].any (·.framingError) ||
      crc8 [c1.data, c2.data, c3.data, c4.data, c5.data, c6.data] != c7.data) = true) ∨ lockStateOf c5.data = none := by
  rw [Bool.or_eq_true, List.any_eq_true, bne_iff_ne, or_assoc]
  rfl

theorem judgeFrame_fails (h : failsFrameCheck [c1, c2, c3, c4, c5, c6, c7]) :
    judgeFrame f [c1, c2, c3, c4, c5, c6, c7] = .error .check := by
  rw [failsFrameCheck_seven] at h
  unfold judgeFrame
  by_cases hc : ([c1, c2, c3, c4, c5, c6, c7].any (·.framingError) ||
      crc8 [c1.data, c2.data, c3.data, c4.data, c5.data, c6.data] != c7.data) = true
  · exact if_pos hc
  · simp only [if_neg hc, h.resolve_left hc]

theorem judgeFrame_passes (h : ¬failsFrameCheck [c1, c2, c3, c4, c5, c6, c7]) :
    ∃ lock, lockStateOf c5.data = some lock ∧ judgeFrame f [c1, c2, c3, c4, c5, c6, c7] =
      if c1.data ≠ driveIdOf f.drive then .error .wrongDrive
      else if c2.data ≠ f.sequence then .error .stale
      else .ok ((half c3.data c4.data).toInt, lock, c6.data.toNat) := by
  rw [failsFrameCheck_seven, not_or] at h
  obtain ⟨hc, hl⟩ := h
  obtain ⟨lock, hlock⟩ := Option.ne_none_iff_exists'.mp hl
  refine ⟨lock, hlock, ?_⟩
  unfold judgeFrame
  simp only [if_neg hc, hlock]
end

/-- A frame with a defect of TABLE 5-III is judged to have it. -/
theorem judgeFrame_of_defect {f : DemandFrame} {chars : List LineChar} {d : ExchangeDefect} (h : FrameDefect f chars d) :
    judgeFrame f chars = .error d := by
  cases d with
  | noReply => exact h.elim
  | short => exact judgeFrame_short f h
  | long => exact judgeFrame_long f h
  | check =>
    obtain ⟨hlen, hfails⟩ := h
    obtain ⟨c1, c2, c3, c4, c5, c6, c7, rfl⟩ := exists_seven hlen
    exact judgeFrame_fails f _ _ _ _ _ _ _ hfails
  | wrongDrive =>
    obtain ⟨hlen, hpasses, hdrive⟩ := h
    obtain ⟨c1, c2, c3, c4, c5, c6, c7, rfl⟩ := exists_seven hlen
    obtain ⟨lock, -, hjudge⟩ := judgeFrame_passes f _ _ _ _ _ _ _ hpasses
    exact hjudge.trans (if_pos hdrive)
  | stale =>
    obtain ⟨hlen, hpasses, hdrive, hsequence⟩ := h
    obtain ⟨c1, c2, c3, c4, c5, c6, c7, rfl⟩ := exists_seven hlen
    obtain ⟨lock, -, hjudge⟩ := judgeFrame_passes f _ _ _ _ _ _ _ hpasses
    exact hjudge.trans ((if_neg (not_not_intro hdrive)).trans (if_pos hsequence))

theorem lockStateOf_code (l : LockState) : lockStateOf l.code = some l := by cases l <;> rfl

/-- A good FEEDBACK reads back as what it carries (R92). -/
theorem judgeFrame_goodFrame (f : DemandFrame) (angle : Half) (lock : LockState) (fault : Byte) :
    judgeFrame f (goodFrame f angle lock fault) = .ok (angle.toInt, lock, fault.toNat) := by
  have hframe : goodFrame f angle lock fault = [LineChar.ofByte (driveIdOf f.drive), LineChar.ofByte f.sequence,
      LineChar.ofByte (angle.extractLsb' 8 8), LineChar.ofByte (angle.extractLsb' 0 8), LineChar.ofByte lock.code,
      LineChar.ofByte fault, LineChar.ofByte (crc8 ([driveIdOf f.drive, f.sequence] ++ halfBytes angle ++
        [lock.code, fault]))] := rfl
  have hcheck : crc8 [driveIdOf f.drive, f.sequence, angle.extractLsb' 8 8, angle.extractLsb' 0 8, lock.code, fault] =
      crc8 ([driveIdOf f.drive, f.sequence] ++ halfBytes angle ++ [lock.code, fault]) := rfl
  rw [hframe]
  unfold judgeFrame
  simp [LineChar.ofByte_data, LineChar.ofByte_framingError, lockStateOf_code, hcheck, half_bytes]

/-! ## What the end of an exchange leaves (R89) -/

theorem ended_channel (s : State) (f : DemandFrame) (c : Channel) : (s.ended f).channel c = s.channel c := by
  obtain ⟨h1, h2⟩ := endExchange_channels s.tilt f
  cases c with
  | CH1 => exact h1
  | CH2 => exact h2

theorem missed_eq (s : State) (f : DemandFrame) (d : ExchangeDefect) :
    (s.ended f).missExchange f.drive d =
      if ((s.channel f.drive).misses : Int) + 1 = s.params.feedbackMissLimit then
        (s.missed f d).raise .feedback (some f.drive) (defectCode d)
      else s.missed f d := by
  unfold State.missExchange State.missed
  simp only [reaches, decide_eq_true_eq, ended_channel]
  rfl

section
variable {s : State} (hr : s.pins.rstN = true)
include hr

theorem exec_demandSent {f : DemandFrame} {n : Nat} (hp : s.tilt.phase = .sending f n) :
    exec .demandSent s = .next (s.demandSent f) := by
  rw [show exec .demandSent s = execDemandSent s from rfl, execDemandSent, event_high _ _ hr, hp]

theorem exec_demandSent_idle (hp : ∀ f n, s.tilt.phase ≠ .sending f n) : exec .demandSent s = .next s := by
  rw [show exec .demandSent s = execDemandSent s from rfl, execDemandSent, event_high _ _ hr]
  split
  · next f n e => exact absurd e (hp f n)
  · rfl

theorem exec_windowClose {f : DemandFrame} (hp : s.tilt.phase = .listening f) :
    exec .exchangeWindowClose s = .next ((s.ended f).missExchange f.drive .noReply) := by
  rw [show exec .exchangeWindowClose s = execExchangeWindowClose s from rfl, execExchangeWindowClose, event_high _ _ hr, hp]
  rfl

theorem exec_feedback {f : DemandFrame} (hp : s.tilt.phase = .listening f) (chars : List LineChar) :
    exec (.feedbackFrame chars) s = .next
      (match judgeFrame f chars with
        | .error d => (s.ended f).missExchange f.drive d
        | .ok (angle, lock, fault) => (s.ended f).goodFeedback f angle lock fault) := by
  rw [show exec (.feedbackFrame chars) s = execFeedbackFrame chars s from rfl, execFeedbackFrame, event_high _ _ hr, hp]
  rfl

theorem exec_feedback_defect {f : DemandFrame} (hp : s.tilt.phase = .listening f) {chars : List LineChar}
    {d : ExchangeDefect} (h : FrameDefect f chars d) :
    exec (.feedbackFrame chars) s = .next ((s.ended f).missExchange f.drive d) := by
  rw [exec_feedback hr hp, judgeFrame_of_defect h]

theorem exec_feedback_good {f : DemandFrame} (hp : s.tilt.phase = .listening f) (angle : Half) (lock : LockState)
    (fault : Byte) :
    exec (.feedbackFrame (goodFrame f angle lock fault)) s =
      .next ((s.ended f).goodFeedback f angle.toInt lock fault.toNat) := by
  rw [exec_feedback hr hp, judgeFrame_goodFrame]

theorem exec_link_idle (hp : ∀ f, s.tilt.phase ≠ .listening f) :
    exec .exchangeWindowClose s = .next s ∧ ∀ chars, exec (.feedbackFrame chars) s = .next s := by
  constructor
  · rw [show exec .exchangeWindowClose s = execExchangeWindowClose s from rfl, execExchangeWindowClose,
      event_high _ _ hr]
    split
    · next f e => exact absurd e (hp f)
    · rfl
  · intro chars
    rw [show exec (.feedbackFrame chars) s = execFeedbackFrame chars s from rfl, execFeedbackFrame, event_high _ _ hr]
    split
    · next f e => exact absurd e (hp f)
    · rfl
end

/-! ## The DEMAND frame on the line (R90, R169) -/

theorem crc8_append (chars : List Byte) (b : Byte) : crc8 (chars ++ [b]) =
    [7, 6, 5, 4, 3, 2, 1, 0].foldl
      (fun (reg : Byte) (k : Nat) => if b.getLsbD k = reg.getLsbD 7 then reg <<< 1 else (reg <<< 1) ^^^ 0x07#8)
      (crc8 chars) := by
  have hbits : bitsOf b = [7, 6, 5, 4, 3, 2, 1, 0].map b.getLsbD := by
    simp [bitsOf, BitVec.getMsbD]
  have hbit : ∀ (reg : Byte) (bit : Bool),
      crc8Bit reg bit = if bit = reg.getLsbD 7 then reg <<< 1 else (reg <<< 1) ^^^ 0x07#8 := by
    intro reg bit
    have hmsb : reg.msb = reg.getLsbD 7 := by simp [BitVec.msb_eq_getLsbD_last]
    rw [crc8Bit, hmsb]
    by_cases h : bit = reg.getLsbD 7 <;> simp [h]
  rw [crc8, List.foldl_append, List.foldl_cons, List.foldl_nil, hbits, List.foldl_map]
  simp only [hbit]
  rfl

theorem line_eq (c : LineChar) :
    c.line = [false] ++ (List.range 8).map (fun k => c.data.getLsbD k) ++ [!c.framingError] := by
  have hbit : ∀ k, k < 8 → c.data.getLsbD k = c.bits.getLsbD k := fun k hk => by simp [LineChar.data, hk]
  have hmap : (List.range 8).map (fun k => c.data.getLsbD k) = (List.range 8).map (fun k => c.bits.getLsbD k) :=
    List.map_congr_left fun k hk => hbit k (List.mem_range.mp hk)
  rw [hmap, LineChar.framingError, Bool.not_not]
  rfl

/-- The ten bits of a byte on the line. -/
theorem ofByte_line_eq (b : Byte) :
    (LineChar.ofByte b).line = [false] ++ (List.range 8).map (fun k => b.getLsbD k) ++ [true] := by
  rw [line_eq, LineChar.ofByte_data, LineChar.ofByte_framingError]
  rfl

/-- The bits of bytes one after another, ten for each. -/
theorem bits_at (bs : List Byte) (i : Nat) (b : Byte) (h : bs[i]? = some b) :
    ((bs.flatMap (fun b => (LineChar.ofByte b).line)).drop (10 * i)).take 10 = (LineChar.ofByte b).line := by
  induction bs generalizing i with
  | nil => cases h
  | cons x xs ih =>
    have hlen : (LineChar.ofByte x).line.length = 10 := rfl
    cases i with
    | zero =>
      cases h
      rw [List.flatMap_cons, Nat.mul_zero, List.drop_zero, List.take_left' hlen]
    | succ i =>
      rw [List.flatMap_cons, Nat.mul_succ, Nat.add_comm, ← List.drop_drop, List.drop_left' hlen]
      exact ih i h

theorem demandSent_channel (s : State) (f : DemandFrame) :
    (s.demandSent f).channel f.drive =
        { s.channel f.drive with lastSent := f.demand, sequence := (s.channel f.drive).sequence + 1 } ∧
      (s.demandSent f).channel f.drive.other = s.channel f.drive.other := by
  unfold State.demandSent
  cases f.drive <;> exact ⟨rfl, rfl⟩

theorem demandSent_eq (s : State) (f : DemandFrame) :
    s.demandSent f = { s with tilt := { s.tilt with
      ch1 := (s.demandSent f).tilt.ch1, ch2 := (s.demandSent f).tilt.ch2, phase := .listening f, window := some 2000 } } := by
  unfold State.demandSent
  cases f.drive <;> rfl

/-- Settles O56. -/
theorem exchangesAreSentAndMissed : Obligations.ExchangesAreSentAndMissed := by
  refine ⟨fun s hr => ⟨fun f n hp => ?sent, exec_demandSent_idle hr, fun f d c hp hc => ?missed, exec_link_idle hr⟩,
    fun f => ⟨?chars, ?length, fun i b hb => ?bits⟩, ⟨by decide +kernel, rfl, crc8_append⟩, line_eq,
    fun s => ⟨fun f n hp => ?sending, fun hp => ?silent⟩⟩
  case sent => exact ⟨_, exec_demandSent hr hp, demandSent_eq s f, demandSent_channel s f⟩
  case missed =>
    have hexec : exec c s = .next ((s.ended f).missExchange f.drive d) := by
      obtain ⟨rfl, rfl⟩ | ⟨chars, rfl, hd⟩ := hc
      · exact exec_windowClose hr hp
      · exact exec_feedback_defect hr hp hd
    rw [hexec, missed_eq]
    cases d <;> rfl
  case chars =>
    refine ⟨_, rfl, ?_⟩
    obtain ⟨drive, sequence, demand, lock⟩ := f
    cases drive <;> cases lock <;> rfl
  case length => rfl
  case bits =>
    rw [← ofByte_line_eq]
    exact bits_at _ i b hb
  case sending =>
    rw [State.dlDir, State.driveLine, hp]
    exact ⟨rfl, rfl⟩
  case silent =>
    unfold State.dlDir State.driveLine
    cases h : s.tilt.phase with
    | sending f n => exact absurd h (hp f n)
    | _ => exact ⟨rfl, rfl⟩

end Sys2Proof.Machine
end

section
/-! PROOFS. Good FEEDBACKs (R94 to R107) and the lock and unlock timers (R103, R122). -/

namespace Sys2Proof.Machine

/-! ## The five steps of a good FEEDBACK, from the state that steps (a) and (b) leave -/

section
variable {s : State} (f : DemandFrame) (angle : Int) (lock : LockState) (fault : Nat)

theorem storeFeedback_ended (s : State) :
    (s.ended f).storeFeedback f.drive angle lock fault = s.afterFeedback f angle lock fault := rfl

theorem afterFeedback_channel (s : State) : (s.afterFeedback f angle lock fault).channel f.drive =
    { s.channel f.drive with
      misses := 0, feedback := some { measured := min 32767 (s.turn angle), lock := lock, fault := fault } } := by
  rw [State.afterFeedback, State.channel_setChannel, ended_channel]

theorem afterFeedback_rest (s : State) : (s.afterFeedback f angle lock fault).node = s.node ∧
    (s.afterFeedback f angle lock fault).trunk = s.trunk ∧ (s.afterFeedback f angle lock fault).params = s.params := by
  unfold State.afterFeedback
  refine ⟨?_, ?_, ?_⟩
  · rw [State.setChannel_node]
    rfl
  · rw [State.setChannel_trunk]
    rfl
  · rw [State.setChannel_params]
    rfl

/-- Steps (c) to (e). -/
theorem goodFeedback_ended (s : State) :
    (s.ended f).goodFeedback f angle lock fault =
      (((s.afterFeedback f angle lock fault).testDriveFault f.drive (s.channel f.drive).faultCode fault).superviseTracking
        f.drive (min 32767 (s.turn angle))).applyLockState f.drive lock f.demand (min 32767 (s.turn angle)) := by
  rw [State.goodFeedback, storeFeedback_ended, ended_channel]
  rfl

theorem superviseTracking_rest {c : Channel} (m : Int)
    (h : (s.channel c).state ≠ .tracking ∧ (s.channel c).state ≠ .returning) : s.superviseTracking c m = s := by
  unfold State.superviseTracking
  dsimp only
  split
  · next e => exact absurd e h.1
  · next e => exact absurd e h.2
  · rfl

theorem testDriveFault_quiet {c : Channel} {old new : Nat} (h : new = 0 ∨ new = old) : s.testDriveFault c old new = s :=
  if_neg fun hn => h.elim hn.1 hn.2

theorem testDriveFault_eq (c : Channel) (old new : Nat) :
    s.testDriveFault c old new = if new = 0 ∨ new = old then s else s.raise .drive (some c) new := by
  unfold State.testDriveFault
  by_cases h : new = 0 ∨ new = old
  · rw [if_pos h, if_neg fun hn => h.elim hn.1 hn.2]
  · rw [if_neg h, if_pos (not_or.mp h)]
end

theorem startsLocking_eq (s : State) (c : Channel) :
    s.setChannel c ((s.channel c).enterLocking s.lockTime) = s.startsLocking c := rfl

/-! ## The lock state applied (R98 to R105) -/

section
variable {s : State} {c : Channel} (lock : LockState) (d m : Int)

theorem applyLockState_unlocking (h : (s.channel c).state = .unlocking) :
    s.applyLockState c lock d m = s.applyUnlocking c lock := by
  rw [State.applyLockState, h]

theorem applyLockState_tracking (h : (s.channel c).state = .tracking) : s.applyLockState c lock d m = s := by
  rw [State.applyLockState, h]

theorem applyLockState_returning (h : (s.channel c).state = .returning) :
    s.applyLockState c lock d m = s.applyReturning c d m := by
  rw [State.applyLockState, h]

theorem applyLockState_lockable (h : (s.channel c).state = .locking ∨ (s.channel c).state = .failed) :
    s.applyLockState c lock d m = if lock = .engaged then s.enterLocked c else s := by
  rcases h with h | h <;> rw [State.applyLockState, h]

theorem applyLockState_locked (h : (s.channel c).state = .locked) :
    s.applyLockState c lock d m =
      if lock = .released then (s.startsLocking c).raise .lockLost (some c) 0 else s := by
  rw [State.applyLockState, h]
  rfl

theorem enterLocked_alone (h : ¬(s.node.state = .winddown ∧ (s.channel c.other).state = .locked)) :
    s.enterLocked c = s.setChannel c { s.channel c with state := .locked, lockTimer := none } := by
  unfold State.enterLocked State.tellLocked
  rw [State.setChannel_node, State.channel_setChannel_other, if_neg h]

theorem enterLocked_last (h : s.node.state = .winddown ∧ (s.channel c.other).state = .locked) :
    s.enterLocked c = { s.setChannel c { s.channel c with state := .locked, lockTimer := none } with
      node := { s.node with state := .standby } } := by
  unfold State.enterLocked State.tellLocked
  rw [State.setChannel_node, State.channel_setChannel_other, if_pos h, State.setNodeState, State.setChannel_node]
  rfl
end

/-- Settles O57: without a new fault code steps (c) and (d) do nothing in the four states without tilt. -/
theorem feedbackLocksAndUnlocks : Obligations.FeedbackLocksAndUnlocks := by
  intro s f angle lock fault hr hp hquiet
  dsimp only
  have hchannel := afterFeedback_channel f angle.toInt lock fault.toNat s
  obtain ⟨hnode, -, -⟩ := afterFeedback_rest f angle.toInt lock fault.toNat s
  have hexec : (s.channel f.drive).state ≠ .tracking ∧ (s.channel f.drive).state ≠ .returning →
      exec (.feedbackFrame (goodFrame f angle lock fault)) s =
        .next ((s.afterFeedback f angle.toInt lock fault.toNat).applyLockState f.drive lock f.demand
          (min 32767 (s.turn angle.toInt))) := by
    intro hstate
    rw [exec_feedback_good hr hp, goodFeedback_ended, testDriveFault_quiet hquiet,
      superviseTracking_rest _ (by rw [hchannel]; exact hstate)]
  have hustate : ((s.afterFeedback f angle.toInt lock fault.toNat).channel f.drive).state = (s.channel f.drive).state := by
    rw [hchannel]
  generalize s.afterFeedback f angle.toInt lock fault.toNat = u at hnode hexec hustate ⊢
  refine ⟨fun hs => ?unlocking, fun hs => ?lockable, fun hs => ?locked⟩
  case unlocking =>
    rw [hexec (by rw [hs]; decide), applyLockState_unlocking _ _ _ (hustate.trans hs)]
    unfold State.applyUnlocking
    refine ⟨fun hl => by rw [if_neg hl], fun hl hpartner => by rw [if_pos hl, if_neg hpartner], fun hl h1 h2 => ?_⟩
    rw [if_pos hl, if_pos ⟨h1, h2⟩]
    rfl
  case lockable =>
    rw [hexec (by rcases hs with e | e <;> rw [e] <;> decide),
      applyLockState_lockable _ _ _ (hs.imp hustate.trans hustate.trans)]
    refine ⟨fun hl => by rw [if_neg hl], fun hl hw ho => ?_, fun hl hw => ?_⟩
    · rw [if_pos hl, enterLocked_last ⟨by rw [hnode]; exact hw, ho⟩, hnode]
    · rw [if_pos hl, enterLocked_alone (by rw [hnode]; exact hw)]
  case locked =>
    rw [hexec (by rw [hs]; decide), applyLockState_locked _ _ _ (hustate.trans hs)]
    exact ⟨fun hl => by rw [if_neg hl], fun hl => by rw [if_pos hl]⟩

/-! ## What a fault leaves of a channel (R97, R123) -/

/-- The channel that a fault leaves: as it was, or stood down. -/
theorem raise_channel (s : State) (cls : FaultClass) (ch : Option Channel) (d : Nat) (c : Channel) :
    (s.raise cls ch d).channel c = (s.struck cls).channel c := channel_of_tilt (raise_tilt s cls ch d) c

theorem struck_channel_cases (s : State) (cls : FaultClass) (c : Channel) :
    (s.struck cls).channel c = s.channel c ∨ (s.struck cls).channel c = (s.channel c).standDown s.lockTime := by
  obtain ⟨e, -⟩ | ⟨e, -⟩ := struck_cases s cls
  · exact .inl (by rw [e])
  · exact .inr (by rw [e, channel_standDown])

section
variable {s : State} (cls : FaultClass) (ch : Option Channel) (d : Nat) {c : Channel}

/-- A channel that holds its lock or has lost its drive is not moved by a fault. -/
theorem raise_channel_rest
    (h : (s.channel c).state = .locked ∨ (s.channel c).state = .locking ∨ (s.channel c).state = .failed) :
    (s.raise cls ch d).channel c = s.channel c := by
  rw [raise_channel]
  rcases struck_channel_cases s cls c with e | e
  · exact e
  · exact e.trans (standDown_rest _ h)

/-- A channel that tilts keeps all but its state, and goes on tilting. -/
theorem raise_channel_tilted (h : (s.channel c).state = .tracking ∨ (s.channel c).state = .returning) :
    ∃ x, (x = .tracking ∨ x = .returning) ∧ (s.raise cls ch d).channel c = { s.channel c with state := x } := by
  rw [raise_channel]
  rcases struck_channel_cases s cls c with e | e
  · exact ⟨_, h, e⟩
  · exact ⟨.returning, .inr rfl, e.trans (standDown_tilted _ h)⟩

/-- A node-stopping fault leaves no node in WINDDOWN. -/
theorem raise_not_winddown (hc : cls.stopping = true) : (s.raise cls ch d).node.state ≠ .winddown := by
  rw [raise_node]
  obtain ⟨e, hnone⟩ | ⟨e, -⟩ := struck_cases s cls
  · rw [e]
    rcases hnone with hn | hn | hn
    · rw [hc] at hn
      cases hn
    · rw [hn]
      decide
    · rw [hn]
      decide
  · rw [e, standDown_node]
    simp

/-- A fault in ACTIVE takes a channel in UNLOCKING to LOCKING. -/
theorem raise_channel_unlocking (hc : cls.stopping = true) (hn : s.node.state = .active)
    (h : (s.channel c).state = .unlocking) : ((s.raise cls ch d).channel c).state = .locking := by
  rw [raise_channel, struck_eq_standDown hc (.inr (.inl hn)), channel_standDown, standDown_unlocking _ h]
  rfl
end

/-! ## A channel that tilts (R100, R101, R106, R107) -/

section
variable {s : State} {c : Channel}

/-- Step (d), as one count and one fault. -/
theorem superviseTracking_tilted (m : Int) (h : (s.channel c).state = .tracking ∨ (s.channel c).state = .returning) :
    s.superviseTracking c m =
      if s.params.trackBand < s.trackError c m ∧ ((s.channel c).persistence : Int) + 1 = s.params.trackPersist then
        (s.setChannel c { s.channel c with persistence :=
          if (s.trackError c m : Int) ≤ s.params.trackBand then 0 else min 255 ((s.channel c).persistence + 1) }).raise
            .tracking (some c) (min 255 (s.trackError c m))
      else s.setChannel c { s.channel c with persistence :=
        if (s.trackError c m : Int) ≤ s.params.trackBand then 0 else min 255 ((s.channel c).persistence + 1) } := by
  have hone : s.superviseTracking c m =
      if (s.trackError c m : Int) ≤ s.params.trackBand then s.setChannel c { s.channel c with persistence := 0 }
      else if reaches (s.channel c).persistence s.params.trackPersist then
        (s.setChannel c { s.channel c with persistence := bump8 (s.channel c).persistence }).raise .tracking (some c)
          (min 255 (s.trackError c m))
      else s.setChannel c { s.channel c with persistence := bump8 (s.channel c).persistence } := by
    rcases h with h | h <;> simp only [State.superviseTracking, h]
  rw [hone]
  by_cases hb : (s.trackError c m : Int) ≤ s.params.trackBand
  · rw [if_pos hb, if_neg fun hn => absurd hb (Int.not_le.mpr hn.1), if_pos hb]
  · rw [if_neg hb, if_neg hb]
    simp only [reaches, decide_eq_true_eq, Int.not_le.mp hb, true_and]
    rfl

/-- Step (e): a channel that tilts is centred or stands. -/
theorem applyLockState_tilted (lock : LockState) (d m : Int)
    (h : (s.channel c).state = .tracking ∨ (s.channel c).state = .returning) :
    s.applyLockState c lock d m =
      if (s.channel c).state = .returning ∧ (s.node.state = .winddown ∨ s.node.state = .safe) ∧ d = 0 ∧
          (m.natAbs : Int) ≤ s.params.centreBand then s.startsLocking c
      else s := by
  rcases h with h | h
  · rw [applyLockState_tracking _ _ _ h, h, if_neg (by simp)]
  · rw [applyLockState_returning _ _ _ h, h, State.applyReturning, startsLocking_eq]
    simp only [true_and]

/-- A channel that tilts goes on tilting through the supervision. -/
theorem superviseTracking_tilts (m : Int) (h : (s.channel c).state = .tracking ∨ (s.channel c).state = .returning) :
    ((s.superviseTracking c m).channel c).state = .tracking ∨ ((s.superviseTracking c m).channel c).state = .returning := by
  have hcounted : ∀ n, ((s.setChannel c { s.channel c with persistence := n }).channel c).state = .tracking ∨
      ((s.setChannel c { s.channel c with persistence := n }).channel c).state = .returning := by
    intro n
    rw [State.channel_setChannel]
    exact h
  rw [superviseTracking_tilted m h]
  split
  · obtain ⟨x, hx, e⟩ := raise_channel_tilted .tracking (some c) (min 255 (s.trackError c m)) (hcounted _)
    rw [e]
    exact hx
  · exact hcounted _
end

/-- What step (c) leaves of a channel that tilts. -/
theorem testDriveFault_channel_tilted {s : State} {c : Channel} (old new : Nat)
    (h : (s.channel c).state = .tracking ∨ (s.channel c).state = .returning) :
    ∃ x, (x = .tracking ∨ x = .returning) ∧ (s.testDriveFault c old new).channel c = { s.channel c with state := x } := by
  unfold State.testDriveFault
  split
  · exact raise_channel_tilted _ _ _ h
  · exact ⟨_, h, rfl⟩

theorem testDriveFault_turn (s : State) (c : Channel) (old new : Nat) (x : Int) :
    (s.testDriveFault c old new).turn x = s.turn x := by
  unfold State.testDriveFault
  split
  · exact turn_of_head (sameHead_raise _ _ _ _).1 x
  · rfl

/-- Settles O58. -/
theorem feedbackIsSupervised : Obligations.FeedbackIsSupervised := by
  intro s f angle lock fault hr hp
  dsimp only
  have hchannel := afterFeedback_channel f angle.toInt lock fault.toNat s
  obtain ⟨hnode, htrunk, hparams⟩ := afterFeedback_rest f angle.toInt lock fault.toNat s
  have hexec := (exec_feedback_good hr hp angle lock fault).trans
    (congrArg _ (goodFeedback_ended f angle.toInt lock fault.toNat s))
  rw [hexec]
  have htested := testDriveFault_eq (s := s.afterFeedback f angle.toInt lock fault.toNat) f.drive
    (s.channel f.drive).faultCode fault.toNat
  generalize s.afterFeedback f angle.toInt lock fault.toNat = u at hchannel hnode htrunk hparams htested ⊢
  refine ⟨fun hs => ?tilted, fun hnew => ⟨fun hs => ?locked, fun hs hactive => ?unlocking, fun hs => ?lockable⟩⟩
  case tilted =>
    rw [← htested]
    have hus : (u.channel f.drive).state = .tracking ∨ (u.channel f.drive).state = .returning := by
      rw [hchannel]
      exact hs
    obtain ⟨x, hx, hkept⟩ := testDriveFault_channel_tilted (s.channel f.drive).faultCode fault.toNat hus
    have hturn := testDriveFault_turn u f.drive (s.channel f.drive).faultCode fault.toNat
    have hp : (u.testDriveFault f.drive (s.channel f.drive).faultCode fault.toNat).params = s.params := by
      rw [(State.testDriveFault_frame _ _ _ _).2.2.2.2.2.2, hparams]
    generalize u.testDriveFault f.drive (s.channel f.drive).faultCode fault.toNat = t at hkept hturn hp ⊢
    have hts : (t.channel f.drive).state = .tracking ∨ (t.channel f.drive).state = .returning := by
      rw [hkept]
      exact hx
    have herror : t.trackError f.drive (min 32767 (s.turn angle.toInt)) =
        (min 32767 (s.turn angle.toInt) - s.turn (s.channel f.drive).lastSent).natAbs := by
      rw [State.trackError, hkept, hturn, turn_of_head (s := s) (t := u) (by rw [htrunk]), hchannel]
    have hpersistence : (t.channel f.drive).persistence = (s.channel f.drive).persistence := by
      rw [hkept, hchannel]
    have hsupervised := superviseTracking_tilted (min 32767 (s.turn angle.toInt)) hts
    rw [herror, hpersistence, hp] at hsupervised
    rw [applyLockState_tilted _ _ _ (superviseTracking_tilts _ hts), ← hsupervised,
      (State.superviseTracking_frame _ _ _).2.2.2.2.2.2, hp]
  all_goals
    have hraised : u.testDriveFault f.drive (s.channel f.drive).faultCode fault.toNat =
        u.raise .drive (some f.drive) fault.toNat := htested.trans (if_neg hnew)
    rw [hraised, if_neg (show ¬(fault.toNat = 0 ∨ fault.toNat = (s.channel f.drive).faultCode) from hnew)]
    have hus : (u.channel f.drive).state = (s.channel f.drive).state := by rw [hchannel]
  case locked =>
    have hts : ((u.raise .drive (some f.drive) fault.toNat).channel f.drive).state = .locked := by
      rw [raise_channel_rest _ _ _ (.inl (hus.trans hs))]
      exact hus.trans hs
    rw [superviseTracking_rest _ (by rw [hts]; decide), applyLockState_locked _ _ _ hts]
    exact ⟨fun hl => by rw [if_neg hl], fun hl => by rw [if_pos hl]⟩
  case unlocking =>
    have hts : ((u.raise .drive (some f.drive) fault.toNat).channel f.drive).state = .locking :=
      raise_channel_unlocking .drive _ _ rfl (by rw [hnode]; exact hactive) (hus.trans hs)
    rw [superviseTracking_rest _ (by rw [hts]; decide), applyLockState_lockable _ _ _ (.inl hts),
      enterLocked_alone fun hw => raise_not_winddown .drive _ _ rfl hw.1]
    exact ⟨fun hl => by rw [if_neg hl], fun hl => by rw [if_pos hl]⟩
  case lockable =>
    have hts : ((u.raise .drive (some f.drive) fault.toNat).channel f.drive).state = .locking ∨
        ((u.raise .drive (some f.drive) fault.toNat).channel f.drive).state = .failed := by
      rw [raise_channel_rest _ _ _ (.inr (hs.imp hus.trans hus.trans))]
      exact hs.imp hus.trans hus.trans
    rw [superviseTracking_rest _ (by rcases hts with e | e <;> rw [e] <;> decide), applyLockState_lockable _ _ _ hts,
      enterLocked_alone fun hw => raise_not_winddown .drive _ _ rfl hw.1]
    exact ⟨fun hl => by rw [if_neg hl], fun hl => by rw [if_pos hl]⟩

/-! ## The lock and unlock timers (R103, R122) -/

section
variable {s : State} (hr : s.pins.rstN = true)
include hr

theorem exec_lockTimeout (c : Channel) : exec (.lockTimeout c) s = .next
    (if (s.channel c).state = .locking ∧ (s.channel c).lockTimer.isSome then s.lockTimeout c else s) :=
  event_high (fun s => if (s.channel c).state = .locking ∧ (s.channel c).lockTimer.isSome then s.lockTimeout c else s) s hr

theorem exec_unlockTimeout : exec .unlockTimeout s = .next
    (if s.node.unlockTimer.isSome then (s.setUnlockTimer none).raise .unlockTimeout none s.markDetail else s) :=
  event_high (fun s =>
    if s.node.unlockTimer.isSome then (s.setUnlockTimer none).raise .unlockTimeout none s.markDetail else s) s hr
end

/-- Settles O59. -/
theorem lockAndUnlockTimersExpire : Obligations.LockAndUnlockTimersExpire := by
  intro s hr
  simp only [exec_lockTimeout hr, exec_unlockTimeout hr]
  refine ⟨fun c hs ht => ?lock, fun c hno => ?noLock, fun ht => ?unlock, fun ht => ?noUnlock⟩
  case lock =>
    rw [if_pos ⟨hs, Option.isSome_iff_ne_none.mpr ht⟩]
    refine ⟨_, rfl, fun hf => ?_, fun r hf => ?_⟩ <;> rw [TiltChannel.heldLock, hf]
    exact ⟨fun hl => by simp only [hl]; rfl, fun hl => by simp only [hl]; rfl, fun hl => by simp only [hl]; rfl⟩
  case noLock =>
    rw [if_neg fun h => hno.elim (fun hs => hs h.1) fun ht => Option.isSome_iff_ne_none.mp h.2 ht]
  case unlock =>
    rw [if_pos (Option.isSome_iff_ne_none.mpr ht)]
    refine ⟨_, rfl, fun h1 h2 => ?_, fun h1 _ => ?_, fun h1 h2 => ?_⟩ <;> simp [State.markDetail, *]
  case noUnlock => rw [ht]; rfl

end Sys2Proof.Machine
end

section
/-! PROOFS. The power-on reset (R170, R171), the ports (R146, R148), the arbiter (R153), the queues (R151, R152) and the
routing of what the node does not act on (R149, R150). -/

namespace Sys2Proof.Machine

/-! ## Reset -/

/-- Settles O5: each value of the tables, read off the reset. -/
theorem powerOnResetGivesTheTableValues : Obligations.PowerOnResetGivesTheTableValues := by
  intro x y s
  refine ⟨_, rfl, ?_⟩
  refine ⟨rfl, rfl, rfl, rfl, rfl, rfl, rfl, fun p => ?port, rfl, rfl, rfl, rfl, rfl, rfl, rfl, rfl, rfl, rfl, rfl, rfl,
    rfl, rfl, rfl, fun b => ?bank, rfl, rfl, rfl, rfl, rfl, rfl, rfl, rfl, rfl, rfl, fun c => ?channel, rfl, rfl, rfl, rfl,
    rfl, rfl, rfl, rfl, rfl, rfl, ?rate, fun p => ?line, rfl⟩
  case port => cases p <;> exact ⟨rfl, rfl, rfl, rfl, rfl, rfl⟩
  case bank => cases b <;> exact ⟨rfl, rfl, rfl⟩
  case channel => cases c <;> exact ⟨rfl, rfl, rfl, rfl, rfl, rfl⟩
  case rate => cases x <;> cases y <;> rfl
  case line => cases p <;> rfl

/-! ## Training (R146) -/

theorem exec_port {s : State} (hr : s.pins.rstN = true) {c : Instr} {f : Trunk → Trunk}
    (hc : exec c s = event (fun s => s.setTrunk (f s.trunk)) s) : exec c s = .next (s.setTrunk (f s.trunk)) :=
  hc.trans (event_high _ s hr)

theorem setTrunk_self (s : State) : s.setTrunk s.trunk = s := rfl

theorem setPort_setPort (t : Trunk) (p : Port) (x y : PortState) : (t.setPort p x).setPort p y = t.setPort p y := by
  cases p <;> rfl

/-- Settles O6. -/
theorem signalStartsTraining : Obligations.SignalStartsTraining := by
  intro p s hr
  rw [exec_port hr (f := fun t => t.signalAppears p) rfl]
  refine ⟨fun hd => ?_, fun hd => ?_⟩
  · rw [Trunk.signalAppears, hd]
    rfl
  · unfold Trunk.signalAppears
    split
    · next e => exact absurd e hd
    all_goals rfl

theorem trainOn_full {count : Nat} (h : 16 ≤ count) (rate : Option Rate) (xs : List TrainingSymbol) :
    trainOn count rate xs = (count, rate) := by
  cases xs with
  | nil => rfl
  | cons x xs => exact if_pos h

/-- Symbols counted one list after the other. -/
theorem trainOn_append (count : Nat) (rate : Option Rate) (xs ys : List TrainingSymbol) :
    trainOn count rate (xs ++ ys) = trainOn (trainOn count rate xs).1 (trainOn count rate xs).2 ys := by
  induction xs generalizing count rate with
  | nil => rfl
  | cons x xs ih =>
    by_cases hfull : 16 ≤ count
    · rw [trainOn_full hfull, trainOn_full hfull, trainOn_full hfull]
    · have hstep : ∀ zs, trainOn count rate (x :: zs) = trainOn (trainStep count rate x).1 (trainStep count rate x).2 zs :=
        fun zs => if_neg hfull
      rw [List.cons_append, hstep, hstep, ih]

theorem train_training {t : Trunk} {p : Port} (h : (t.port p).link = .training) (xs : List TrainingSymbol) :
    t.train p xs = t.setPort p ((t.port p).train xs) := by
  rw [Trunk.train, h]

theorem train_other {t : Trunk} {p : Port} (h : (t.port p).link ≠ .training) (xs : List TrainingSymbol) :
    t.train p xs = t := by
  unfold Trunk.train
  split
  · next e => exact absurd e h
  all_goals rfl

/-- A port takes symbols one list after the other: UP after the first list, it takes no more. -/
theorem train_append (t : Trunk) (p : Port) (xs ys : List TrainingSymbol) :
    t.train p (xs ++ ys) = (t.train p xs).train p ys := by
  by_cases h : (t.port p).link = .training
  · rw [train_training h, train_training h]
    have happend := trainOn_append (t.port p).trainCount (t.port p).trainRate xs ys
    by_cases hfull : 16 ≤ (trainOn (t.port p).trainCount (t.port p).trainRate xs).1
    · have hup : (t.port p).train xs = { t.port p with
          link := .up
          rate := (trainOn (t.port p).trainCount (t.port p).trainRate xs).2
          trainCount := (trainOn (t.port p).trainCount (t.port p).trainRate xs).1
          trainRate := (trainOn (t.port p).trainCount (t.port p).trainRate xs).2 } := if_pos hfull
      have hall : (t.port p).train (xs ++ ys) = (t.port p).train xs := by
        rw [hup, PortState.train, happend, trainOn_full hfull]
        exact if_pos hfull
      rw [hall, train_other]
      rw [Trunk.port_setPort, hup]
      simp
    · have htraining : (t.port p).train xs = { t.port p with
          trainCount := (trainOn (t.port p).trainCount (t.port p).trainRate xs).1
          trainRate := (trainOn (t.port p).trainCount (t.port p).trainRate xs).2 } := if_neg hfull
      have hlink : ((t.setPort p ((t.port p).train xs)).port p).link = .training := by
        rw [Trunk.port_setPort, htraining]
        exact h
      rw [train_training hlink, setPort_setPort, Trunk.port_setPort, PortState.train, happend]
      rw [htraining]
      rfl
  · rw [train_other h, train_other h, train_other h]

/-- One symbol, by TABLE 8-I's row for TRAINING. -/
theorem train_one {x : PortState} (h : x.trainCount < 16) (y : TrainingSymbol) :
    x.train [y] =
      match y with
      | none => { x with trainCount := 0, trainRate := none }
      | some r =>
        if x.trainRate = some r then
          if x.trainCount = 15 then { x with link := .up, rate := some r, trainCount := 16 }
          else { x with trainCount := x.trainCount + 1 }
        else { x with trainCount := 1, trainRate := some r } := by
  have hone : trainOn x.trainCount x.trainRate [y] = trainStep x.trainCount x.trainRate y :=
    if_neg (Nat.not_le.mpr h)
  rw [PortState.train, hone]
  cases y with
  | none => rfl
  | some r =>
    by_cases hr : x.trainRate = some r
    · simp only [trainStep, hr, if_true]
      by_cases hc : x.trainCount = 15
      · rw [if_pos (by rw [hc]; decide), if_pos hc, hc, ← hr]
      · rw [if_neg (by simp only [Config.trainingLength]; omega), if_neg hc, ← hr]
    · simp only [trainStep, if_neg hr]
      rfl

/-- Settles O7. -/
theorem trainingCountsSymbols : Obligations.TrainingCountsSymbols := by
  intro p s hr
  have hexec : ∀ xs s, s.pins.rstN = true → exec (.portUp p xs) s = .next (s.setTrunk (s.trunk.train p xs)) :=
    fun xs s hr => exec_port hr (f := fun t => t.train p xs) rfl
  refine ⟨fun hl hc x => ?_, fun hl xs => ?_, fun xs ys => ⟨_, hexec xs s hr, ?_⟩⟩
  · rw [hexec _ s hr, train_training hl, train_one hc]
    rfl
  · rw [hexec _ s hr, train_other hl, setTrunk_self]
  · rw [hexec _ s hr, hexec _ _ (by exact hr), train_append]
    rfl

/-! ## Transmitters (R151, R153) -/

theorem isUp_iff (t : Trunk) (p : Port) : t.isUp p = true ↔ (t.port p).link = .up := decide_eq_true_iff

theorem free_iff (t : Trunk) (p : Port) : t.free p = true ↔ (t.port p).link = .up ∧ (t.port p).sending = none := by
  rw [Trunk.free, Bool.and_eq_true, isUp_iff, Option.isNone_iff_eq_none]

theorem sendTransit_cons {t : Trunk} {p : Port} {x : Telegram} {rest : List Telegram} (h : t.queue p = x :: rest) :
    t.sendTransit p = (t.setQueue p rest).setPort p { t.port p with sending := some (x, .transit) } := by
  rw [Trunk.sendTransit, h]
  cases p <;> rfl

theorem sendOwn_cons {t : Trunk} {p : Port} {x : Telegram} {rest : List Telegram} (h : t.own = x :: rest) :
    t.sendOwn p = { t.setPort p { t.port p with sending := some (x, .own) } with own := rest } := by
  rw [Trunk.sendOwn, h]
  cases p <;> rfl

theorem transitStart_free {t : Trunk} {p : Port} (hh : t.headPort ≠ some p) (hf : t.free p = true) :
    t.transitStart p = t.sendTransit p := if_pos ⟨hh, hf⟩

theorem transitStart_blocked {t : Trunk} {p : Port} (h : t.headPort = some p ∨ (t.port p).link ≠ .up ∨
    (t.port p).sending ≠ none ∨ t.queue p = []) : t.transitStart p = t := by
  unfold Trunk.transitStart
  split
  · next hgo =>
    obtain ⟨hh, hf⟩ := hgo
    obtain ⟨hup, hfree⟩ := (free_iff t p).mp hf
    rcases h with h | h | h | h
    · exact absurd h hh
    · exact absurd hup h
    · exact absurd hfree h
    · rw [Trunk.sendTransit, h]
  · rfl

/-! ## The rate of the transmitters (R171) -/

theorem actOn_pins (s : State) (p : Port) (x : Telegram) : (actOn p x s).pins = s.pins := by
  rcases hb : x.body with _ | b
  · simp [actOn, hb]
  · rw [actOn_of_body hb]
    cases b <;> simp [actOnBody]

theorem arrive_pins {s : State} (hr : s.pins.rstN = true) (p : Port) (x : Telegram) :
    (s.arrive p x (actOn p x)).pins = s.pins :=
  arrive_keeps (P := fun u => u.pins = s.pins) (fun _ _ _ h => h) p x _ (fun u _ _ h => (actOn_pins u p x).trans h) s hr rfl

theorem effect_pins {c : Instr} {s t : State} (hr : s.pins.rstN = true) (hc : Effect s c t)
    (hlow : c ≠ .resetAsserted) (hpon : ∀ x y, c ≠ .powerOnReset x y) : t.pins = s.pins := by
  cases hc with
  | powerOn x y => exact absurd rfl (hpon x y)
  | low => exact absurd rfl hlow
  | arrives => exact arrive_pins hr _ _
  | port | rejects | idle => rfl
  | _ => simp

theorem transmitRate_step {s t : State} (h : step s = .next t) (hpon : ∀ x y rest, s.pending ≠ .powerOnReset x y :: rest) :
    t.transmitRate = s.transmitRate := by
  obtain ⟨-, rfl⟩ | ⟨c, rest, hp, hc⟩ := step_cases h
  · obtain ⟨-, e⟩ | ⟨-, -, e⟩ | ⟨c, cs, -, -, e⟩ := tick_cases s <;> rw [e] <;> rfl
  · have hpon : ∀ x y, c ≠ .powerOnReset x y := fun x y e => hpon x y rest (e ▸ hp)
    by_cases hlow : c = .resetAsserted
    · subst hlow
      cases hc
      rfl
    have hpins : t.pins = s.pins := by
      cases hr : s.pins.rstN with
      | true => exact effect_pins (s := s.setPending rest) hr (effect_of_exec (by exact hr) hc) hlow hpon
      | false =>
        rw [exec_low (by exact hr) hpon hlow] at hc
        cases hc
        rfl
    rw [State.transmitRate, State.transmitRate, hpins]

/-- Settles O9. -/
theorem portEventsMoveOnlyTheirPort : Obligations.PortEventsMoveOnlyTheirPort := by
  refine ⟨fun p s hr => ?events, fun p s => ?line, fun s t h hpon => transmitRate_step h hpon⟩
  case events =>
    rw [exec_port hr (c := .startDelimiterReceived p) (f := fun t => t.startReceiving p) rfl,
      exec_port hr (c := .transitTransmitStart p) (f := fun t => t.transitStart p) rfl]
    refine ⟨fun hup => ?_, fun hup => ?_, fun x rest hh hup hfree hq => ?_, fun h => ?_,
      exec_port hr (f := fun t => t.endTransmission p) rfl⟩
    · rw [Trunk.startReceiving, if_pos ((isUp_iff _ _).mpr hup)]
      rfl
    · rw [Trunk.startReceiving, if_neg fun h => hup ((isUp_iff _ _).mp h), setTrunk_self]
    · rw [transitStart_free hh ((free_iff _ _).mpr ⟨hup, hfree⟩), sendTransit_cons hq]
      rfl
    · rw [transitStart_blocked h, setTrunk_self]
  case line =>
    unfold State.lineOutput
    refine ⟨fun hup => if_neg fun h => hup ((isUp_iff _ _).mp h), fun hup hs => ?_, fun x q hup hs => ?_⟩
    all_goals rw [if_pos ((isUp_iff _ _).mpr hup), hs]

/-! ## The arbiter (R153) -/

theorem arbiterChoice_free {t : Trunk} {h : Port} (hh : t.headPort = some h) (hup : (t.port h).link = .up)
    (hs : (t.port h).sending = none) (hw : ¬(t.own = [] ∧ t.queue h = [])) : t.arbiterChoice = t.arbitrate h := by
  rw [Trunk.arbiterChoice, hh]
  refine if_pos ⟨(free_iff t h).mpr ⟨hup, hs⟩, ?_⟩
  rwa [List.isEmpty_iff, List.isEmpty_iff]

section
variable {t : Trunk} {h : Port}

theorem arbitrate_transit (ho : t.own = []) : t.arbitrate h = { t.sendTransit h with arbiter := 0 } :=
  if_pos (List.isEmpty_iff.mpr ho)

theorem arbitrate_own (ho : t.own ≠ []) (hq : t.queue h = []) : t.arbitrate h = { t.sendOwn h with arbiter := 0 } :=
  (if_neg (fun e => ho (List.isEmpty_iff.mp e))).trans (if_pos (List.isEmpty_iff.mpr hq))

theorem arbitrate_shared (ho : t.own ≠ []) (hq : t.queue h ≠ []) :
    t.arbitrate h = if t.arbiter < 4 then { t.sendTransit h with arbiter := t.arbiter + 1 }
      else { t.sendOwn h with arbiter := 0 } :=
  (if_neg (fun e => ho (List.isEmpty_iff.mp e))).trans (if_neg fun e => hq (List.isEmpty_iff.mp e))
end

/-- Settles O10: the four cases of R153 in their order. -/
theorem arbiterSharesTheHeadTransmitter : Obligations.ArbiterSharesTheHeadTransmitter := by
  intro s hr
  rw [exec_port hr (c := .arbiterChoice) (f := Trunk.arbiterChoice) rfl]
  refine ⟨fun h hh hup hs => ⟨fun x rest ho hq => ?transit, fun y own ho hq => ?own, fun x rest y own ho hq hn => ?shared,
    fun x rest y own ho hq hn => ?turn, fun ho hq => ?nothing⟩, fun hh => ?unknown, fun h hh hb => ?blocked⟩
  case transit =>
    rw [arbiterChoice_free hh hup hs (by rw [hq]; simp), arbitrate_transit ho, sendTransit_cons hq]
    rfl
  case own =>
    rw [arbiterChoice_free hh hup hs (by rw [ho]; simp), arbitrate_own (by rw [ho]; simp) hq, sendOwn_cons ho]
    rfl
  case shared =>
    rw [arbiterChoice_free hh hup hs (by rw [ho]; simp), arbitrate_shared (by rw [ho]; simp) (by rw [hq]; simp),
      if_pos hn, sendTransit_cons hq]
    rfl
  case turn =>
    rw [arbiterChoice_free hh hup hs (by rw [ho]; simp), arbitrate_shared (by rw [ho]; simp) (by rw [hq]; simp),
      if_neg (by rw [hn]; decide), sendOwn_cons ho]
    rfl
  case nothing =>
    rw [Trunk.arbiterChoice, hh]
    dsimp only
    rw [if_neg fun hgo => hgo.2 ⟨List.isEmpty_iff.mpr ho, List.isEmpty_iff.mpr hq⟩, setTrunk_self]
  case unknown => rw [Trunk.arbiterChoice, hh, setTrunk_self]
  case blocked =>
    rw [Trunk.arbiterChoice, hh]
    dsimp only
    rw [if_neg fun hgo => ?_, setTrunk_self]
    obtain ⟨hup, hs⟩ := (free_iff s.trunk h).mp hgo.1
    exact hb.elim (fun hn => hn hup) fun hn => hn hs

/-! ## The queues (R151, R152) -/

theorem offer_full {t : Trunk} {p : Port} (h : (t.port p).link ≠ .up ∨ 4 ≤ (t.queue p).length) (x : Telegram) :
    t.offer p x = t.countDrops 1 p := by
  refine if_neg fun hgo => ?_
  obtain ⟨hup, hroom⟩ := hgo
  exact h.elim (fun hn => hn ((isUp_iff t p).mp hup)) fun hn => absurd hroom (Nat.not_lt.mpr hn)

theorem countDrops_spec (t : Trunk) (p : Port) :
    (t.countDrops 1 p).drops p = min 65535 (t.drops p + 1) ∧ (t.countDrops 1 p).drops p.other = t.drops p.other ∧
      (t.countDrops 1 p).queue p = t.queue p ∧ (t.countDrops 1 p).queue p.other = t.queue p.other ∧
      (t.countDrops 1 p).own = t.own ∧ t.SameLinks (t.countDrops 1 p) ∧ (t.countDrops 1 p).ownDrops = t.ownDrops := by
  cases p <;> exact ⟨rfl, rfl, rfl, rfl, rfl, ⟨rfl, rfl, rfl, rfl, rfl, ⟨rfl, rfl⟩, rfl, rfl⟩, rfl⟩

theorem ownAccepts_iff (t : Trunk) :
    t.ownAccepts = true ↔ ∃ h, t.headPort = some h ∧ (t.port h).link = .up ∧ t.own.length < 8 := by
  unfold Trunk.ownAccepts
  cases hh : t.headPort with
  | none => simp
  | some h =>
    rw [Bool.and_eq_true, isUp_iff, decide_eq_true_eq]
    exact ⟨fun hgo => ⟨h, rfl, hgo⟩, fun ⟨q, hq, hgo⟩ => Option.some.inj hq ▸ hgo⟩

/-- Settles O11. -/
theorem queuesTakeOrDrop : Obligations.QueuesTakeOrDrop := by
  refine fun t p x => ⟨fun hup hroom => if_pos ⟨(isUp_iff t p).mpr hup, hroom⟩, fun h => ?dropped, fun hh hup hroom => ?placed,
    fun h => ?lost⟩
  case dropped =>
    rw [offer_full h]
    exact countDrops_spec t p
  case placed => exact if_pos ((ownAccepts_iff t).mpr ⟨p, hh, hup, hroom⟩)
  case lost =>
    refine if_neg fun hgo => ?_
    obtain ⟨q, hq, hup, hroom⟩ := (ownAccepts_iff t).mp hgo
    rcases h with h | ⟨hh, h⟩
    · rw [h] at hq
      cases hq
    · rw [hh] at hq
      cases hq
      exact h.elim (fun hn => hn hup) fun hn => absurd hroom (Nat.not_lt.mpr hn)

end Sys2Proof.Machine
end

section
/-! PROOFS. Telegrams that pass through (R148 to R150), the loss of a link (R146, R147), and the bytes of a telegram (R166,
R167, TABLES 8-II, 8-III and 10-I to 10-IV). -/

namespace Sys2Proof.Machine

/-! ## Routing (TABLE 8-IV) -/

theorem isEnumerate_iff (x : Telegram) : isEnumerate x = true ↔ x.dest = 0 ∧ x.kind = 5 := by
  rw [isEnumerate, Bool.and_eq_true, decide_eq_true_eq, decide_eq_true_eq, and_comm]
  rfl

theorem isOwnAddress_iff (t : Trunk) (d : Byte) : t.isOwnAddress d = true ↔ t.address = some d.toNat := decide_eq_true_iff

theorem route_head {t : Trunk} {p : Port} (h : t.headPort = some p) (x : Telegram) : t.route p x = t.routeFromHead x := by
  rw [Trunk.route, h]
  exact if_pos rfl

theorem route_tail {t : Trunk} {p : Port} (h : t.headPort = some p.other) (x : Telegram) :
    t.route p x = routeFromTail x := by
  rw [Trunk.route, h]
  exact if_neg (by cases p <;> decide)

theorem route_forward {t : Trunk} {p : Port} {x : Telegram} (h : t.PassesOn p x) : t.route p x = .forward := by
  obtain ⟨hh, hx⟩ | ⟨hh, hd, hk⟩ | ⟨hh, hd0, hd32, ha⟩ | ⟨hh, hd⟩ := h
  · rw [Trunk.route, hh]
    exact if_neg fun he => hx ((isEnumerate_iff x).mp he)
  · rw [route_head hh, Trunk.routeFromHead, if_pos hd]
    exact if_neg fun hb => hk (of_decide_eq_true hb)
  · rw [route_head hh, Trunk.routeFromHead, if_neg hd0, if_neg fun ho => ha ((isOwnAddress_iff t _).mp ho)]
    exact if_neg hd32
  · rw [route_tail hh]
    exact if_pos hd

theorem route_wrongSide {t : Trunk} {p : Port} {x : Telegram} (h : t.DropsWrongSide p x) : t.route p x = .wrongSide := by
  obtain ⟨hh, hd, ha⟩ | ⟨hh, hd, hx⟩ := h
  · rw [route_head hh, Trunk.routeFromHead, if_neg (by rw [hd]; decide), if_neg fun ho => ?_]
    · exact if_pos hd
    · rw [isOwnAddress_iff, hd] at ho
      exact ha ho
  · rw [route_tail hh, routeFromTail]
    exact (if_neg hd).trans (if_neg fun he => hx ((isEnumerate_iff x).mp he))

/-- The route is that of the head port and the address, whatever the ports hold. -/
theorem route_taken (s : State) (p : Port) (x : Telegram) : (s.taken p).trunk.route p x = s.trunk.route p x := by
  cases p <;> rfl

section
variable {s : State} {p : Port} {x : Telegram}

theorem exec_passThrough (hr : s.pins.rstN = true) :
    exec (.passThroughTelegram p x) s = .next (s.arrive p x (actOn p x)) :=
  (exec_of_arrivalOf (c := .passThroughTelegram p x) rfl s).trans (event_high _ s hr)

theorem arrive_good (hup : (s.trunk.port p).link = .up) (hl : x.lengthOk = true) (act : State → State) :
    s.arrive p x act = (s.taken p).routeGood p x act := by
  rw [State.arrive, if_pos ((isUp_iff _ _).mpr hup), if_pos hl]
  rfl

theorem arrive_down (hup : (s.trunk.port p).link ≠ .up) (act : State → State) : s.arrive p x act = s :=
  if_neg fun h => hup ((isUp_iff _ _).mp h)
end

/-- Settles O12. -/
theorem passingTelegramsAreRouted : Obligations.PassingTelegramsAreRouted := by
  intro p x s hr
  rw [exec_passThrough hr]
  refine ⟨fun hup hl hp => ?forward, fun hup hl hd => ?wrongSide, fun hup hl => ?length, fun hup => ?down⟩
  case forward =>
    rw [arrive_good hup hl, State.routeGood, route_taken, route_forward hp]
    rfl
  case wrongSide =>
    rw [arrive_good hup hl, State.routeGood, route_taken, route_wrongSide hd]
    rfl
  case length =>
    rw [State.arrive, if_pos ((isUp_iff _ _).mpr hup), hl]
    rfl
  case down => rw [arrive_down hup]

/-- Settles O13. -/
theorem unknownKindIsAnswered : Obligations.UnknownKindIsAnswered := by
  intro p x s hlive hh ha hd hk hl
  have hroute : s.trunk.route p x = .unknownKind := by
    rw [route_head hh, Trunk.routeFromHead, if_neg (by rintro e; rw [e] at hd; exact absurd hd.1 (by decide)),
      if_pos ((isOwnAddress_iff _ _).mpr ha)]
    exact if_neg fun hm => hk (of_decide_eq_true hm)
  have hexec : exec (.unknownKind p x) s = .next (s.arrive p x (actOn p x)) :=
    (exec_of_arrivalOf (c := .unknownKind p x) rfl s).trans (event_high _ s hlive.1)
  have haddress : (s.taken p).trunk.addressByte = x.dest := by
    rw [Trunk.addressByte, taken_address, ha]
    simp [byteOf]
  rw [hexec, arrive_good hlive.2 hl, State.routeGood, route_taken, hroute]
  dsimp only
  rw [State.ack, Trunk.ackTelegram, Trunk.originate, haddress]
  rfl

/-! ## Reception (TABLE 8-III) -/

theorem halfBytes_eq_iff (c1 c0 : Byte) (h : Half) : [c1, c0] = halfBytes h ↔ c1.toNat * 256 + c0.toNat = h.toNat := by
  have h1 := c1.isLt
  have h0 := c0.isLt
  have hh := h.isLt
  rw [halfBytes, List.cons.injEq, List.cons.injEq, BitVec.toNat_eq, BitVec.toNat_eq, BitVec.extractLsb'_toNat,
    BitVec.extractLsb'_toNat, Nat.shiftRight_eq_div_pow, Nat.shiftRight_zero]
  simp only [Nat.reducePow, and_true] at *
  omega

theorem failsLength_iff {r : Received} {kind dest source t1 t0 len : Byte} {rest : List Byte}
    (h : r.bytes = [kind, dest, source, t1, t0, len] ++ rest) :
    r.failsLength = true ↔ permittedLength kind len.toNat = false ∨ rest.length ≠ len.toNat + 2 := by
  have hlength : r.failsLength = (!permittedLength kind len.toNat || rest.length != len.toNat + 2) := by
    rw [Received.failsLength, h]
    rfl
  rw [hlength, Bool.or_eq_true, Bool.not_eq_true', bne_iff_ne]

theorem failsLength_short {r : Received} (h : r.bytes.length < 6) : r.failsLength = true := by
  unfold Received.failsLength
  split
  · next e =>
    rw [e] at h
    simp at h
    omega
  · rfl

theorem failsCheck_iff {r : Received} {covered : List Byte} {c1 c0 : Byte} (h : r.bytes = covered ++ [c1, c0]) :
    r.failsCheck = true ↔ c1.toNat * 256 + c0.toNat ≠ (crc16 covered).toNat := by
  have hlen : r.bytes.length - 2 = covered.length := by
    rw [h]
    simp
  unfold Received.failsCheck
  dsimp only
  rw [hlen, bne_iff_ne, h, List.drop_left, List.take_left, Ne, halfBytes_eq_iff]

theorem good_iff (r : Received) :
    r.good = true ↔ r.failsSymbol = false ∧ r.failsLength = false ∧ r.failsCheck = false := by
  rw [Received.good, Bool.and_eq_true, Bool.and_eq_true, Bool.not_eq_true', Bool.not_eq_true', Bool.not_eq_true', and_assoc]

/-- Bytes that pass LENGTH have a header. -/
theorem telegram_of_length {r : Received} (h : r.failsLength = false) : ∃ x, r.telegram = some x := by
  unfold Received.failsLength at h
  unfold Received.telegram
  split at h
  · exact ⟨_, rfl⟩
  · cases h

theorem exec_reception {s : State} (hr : s.pins.rstN = true) (p : Port) (r : Received) :
    exec (.receptionCheckFailure p r) s = .next (s.receive p r) := event_high (fun s => s.receive p r) s hr

/-- Settles O14. -/
theorem failedReceptionIsCounted : Obligations.FailedReceptionIsCounted := by
  refine ⟨fun r => ⟨rfl, fun kind dest source t1 t0 len rest h => failsLength_iff h, failsLength_short,
    fun covered c1 c0 h => failsCheck_iff h⟩, fun p r s hr => ?_⟩
  rw [exec_reception hr]
  refine ⟨fun hup hfails => ?failed, fun hsym hlen hcheck => ?passed, fun hup => ?down⟩
  case failed =>
    have hbad : ¬r.good = true := by
      rw [good_iff]
      rintro ⟨h1, h2, h3⟩
      rw [h1, h2, h3] at hfails
      rcases hfails with h | h | h <;> cases h
    rw [receive_bad fun ⟨x, hg, _⟩ => hbad hg, if_pos ((isUp_iff _ _).mpr hup)]
    rfl
  case passed =>
    obtain ⟨x, hx⟩ := telegram_of_length hlen
    refine ⟨x, hx, ?_⟩
    rw [receive_good ((good_iff r).mpr ⟨hsym, hlen, hcheck⟩) hx, exec_passThrough hr]
  case down =>
    by_cases hgood : ∃ x, r.good = true ∧ r.telegram = some x
    · obtain ⟨x, hg, hx⟩ := hgood
      rw [receive_good hg hx, arrive_down hup]
    · rw [receive_bad hgood, if_neg fun h => hup ((isUp_iff _ _).mp h)]

/-! ## The loss of a link (R146, R147) -/

/-- What the loss of a link may change: the counters of the port and of the node's own queue, the two queues and the
arbiter. -/
structure Trunk.KeepsOthers (t u : Trunk) (p : Port) : Prop where
  ports : ∀ q, u.port q = t.port q
  headPort : u.headPort = t.headPort
  address : u.address = t.address
  queue : u.queue p.other = t.queue p.other
  rxErrors : u.rxErrors p.other = t.rxErrors p.other
  drops : u.drops p.other = t.drops p.other
  wrongSide : u.wrongSideA = t.wrongSideA ∧ u.wrongSideB = t.wrongSideB

theorem keepsOthers_trans {t u v : Trunk} {p : Port} (h : t.KeepsOthers u p) (h' : u.KeepsOthers v p) :
    t.KeepsOthers v p :=
  ⟨fun q => (h'.ports q).trans (h.ports q), h'.headPort.trans h.headPort, h'.address.trans h.address,
    h'.queue.trans h.queue, h'.rxErrors.trans h.rxErrors, h'.drops.trans h.drops,
    h'.wrongSide.1.trans h.wrongSide.1, h'.wrongSide.2.trans h.wrongSide.2⟩

theorem keepsOthers_refl (t : Trunk) (p : Port) : t.KeepsOthers t p :=
  ⟨fun _ => rfl, rfl, rfl, rfl, rfl, rfl, rfl, rfl⟩

theorem keepsOthers_countRxError (t : Trunk) (p : Port) : t.KeepsOthers (t.countRxError p) p := by
  cases p <;> exact ⟨fun q => by cases q <;> rfl, rfl, rfl, rfl, rfl, rfl, rfl, rfl⟩

theorem keepsOthers_countDrops (t : Trunk) (k : Nat) (p : Port) : t.KeepsOthers (t.countDrops k p) p := by
  cases p <;> exact ⟨fun q => by cases q <;> rfl, rfl, rfl, rfl, rfl, rfl, rfl, rfl⟩

theorem keepsOthers_setQueue (t : Trunk) (p : Port) (x : List Telegram) : t.KeepsOthers (t.setQueue p x) p := by
  cases p <;> exact ⟨fun q => by cases q <;> rfl, rfl, rfl, rfl, rfl, rfl, rfl, rfl⟩

theorem keepsOthers_own (t : Trunk) (p : Port) (own : List Telegram) (n k : Nat) :
    t.KeepsOthers { t with own := own, arbiter := n, ownDrops := k } p :=
  ⟨fun q => by cases q <;> rfl, rfl, rfl, by cases p <;> rfl, by cases p <;> rfl, by cases p <;> rfl, rfl, rfl⟩

theorem counters_countDrops (t : Trunk) (k : Nat) (p : Port) :
    (t.countDrops k p).drops p = min 65535 (t.drops p + k) ∧ (t.countDrops k p).rxErrors p = t.rxErrors p ∧
      (t.countDrops k p).ownDrops = t.ownDrops ∧ (t.countDrops k p).own = t.own ∧
      (t.countDrops k p).queue p = t.queue p := by
  cases p <;> exact ⟨rfl, rfl, rfl, rfl, rfl⟩

theorem counters_setQueue (t : Trunk) (p : Port) (x : List Telegram) :
    (t.setQueue p x).drops p = t.drops p ∧ (t.setQueue p x).rxErrors p = t.rxErrors p := by
  cases p <;> exact ⟨rfl, rfl⟩

section
variable (t : Trunk) (p : Port)

/-- The telegram arriving: an RX error of the port. -/
theorem dropArriving_spec (hr : t.rxErrors p ≤ 65535) :
    t.KeepsOthers (t.dropArriving p) p ∧ (t.dropArriving p).queue p = t.queue p ∧ (t.dropArriving p).own = t.own ∧
      (t.dropArriving p).rxErrors p = min 65535 (t.rxErrors p + if (t.port p).receiving.isSome then 1 else 0) ∧
      (t.dropArriving p).drops p = t.drops p ∧ (t.dropArriving p).ownDrops = t.ownDrops := by
  unfold Trunk.dropArriving
  split
  · refine ⟨keepsOthers_countRxError t p, ?_, ?_, ?_, ?_, ?_⟩ <;> cases p <;> rfl
  · exact ⟨keepsOthers_refl t p, rfl, rfl, (Nat.min_eq_right hr).symm, rfl, rfl⟩

/-- The telegram being transmitted: a drop of the queue that it came from. -/
theorem dropTransmitted_spec (hd : t.drops p ≤ 65535) (ho : t.ownDrops ≤ 65535) :
    t.KeepsOthers (t.dropTransmitted p) p ∧ (t.dropTransmitted p).queue p = t.queue p ∧
      (t.dropTransmitted p).own = t.own ∧ (t.dropTransmitted p).rxErrors p = t.rxErrors p ∧
      (t.dropTransmitted p).drops p =
        min 65535 (t.drops p + if (t.port p).sending.map Prod.snd = some .transit then 1 else 0) ∧
      (t.dropTransmitted p).ownDrops =
        min 65535 (t.ownDrops + if (t.port p).sending.map Prod.snd = some .own then 1 else 0) := by
  unfold Trunk.dropTransmitted
  split
  · next x hs =>
    obtain ⟨h1, h2, h3, h4, h5⟩ := counters_countDrops t 1 p
    exact ⟨keepsOthers_countDrops t 1 p, h5, h4, h2, by rw [hs, h1]; rfl,
      by rw [hs, h3]; exact (Nat.min_eq_right ho).symm⟩
  · next x hs =>
    refine ⟨keepsOthers_own t p t.own t.arbiter _, ?_, rfl, ?_, ?_, by rw [hs]; rfl⟩
    · cases p <;> rfl
    · cases p <;> rfl
    · rw [hs]
      refine Eq.trans ?_ (Nat.min_eq_right hd).symm
      cases p <;> rfl
  · next hs =>
    rw [hs]
    exact ⟨keepsOthers_refl t p, rfl, rfl, rfl, (Nat.min_eq_right hd).symm, (Nat.min_eq_right ho).symm⟩

/-- The transit queue: a drop for each telegram in it. -/
theorem dropTransit_spec :
    t.KeepsOthers (t.dropTransit p) p ∧ (t.dropTransit p).queue p = [] ∧ (t.dropTransit p).own = t.own ∧
      (t.dropTransit p).rxErrors p = t.rxErrors p ∧
      (t.dropTransit p).drops p = min 65535 (t.drops p + (t.queue p).length) ∧
      (t.dropTransit p).ownDrops = t.ownDrops := by
  obtain ⟨h1, h2, h3, h4, -⟩ := counters_countDrops t (t.queue p).length p
  obtain ⟨h1', h2'⟩ := counters_setQueue (t.countDrops (t.queue p).length p) p []
  refine ⟨keepsOthers_trans (keepsOthers_countDrops _ _ _) (keepsOthers_setQueue _ _ _), by simp [Trunk.dropTransit], ?_,
    h2'.trans h2, h1'.trans h1, ?_⟩
  · exact (Trunk.setQueue_own _ _ _).trans h4
  · exact (Trunk.setQueue_ownDrops _ _ _).trans h3

/-- The own queue, when the port is the head port: a drop for each telegram in it. -/
theorem dropOwn_spec (ho : t.ownDrops ≤ 65535) :
    t.KeepsOthers (t.dropOwn p) p ∧ (t.dropOwn p).queue p = t.queue p ∧
      (t.dropOwn p).own = (if t.headPort = some p then [] else t.own) ∧ (t.dropOwn p).rxErrors p = t.rxErrors p ∧
      (t.dropOwn p).drops p = t.drops p ∧
      (t.dropOwn p).ownDrops = min 65535 (t.ownDrops + if t.headPort = some p then t.own.length else 0) := by
  unfold Trunk.dropOwn
  split
  · refine ⟨keepsOthers_own t p [] 0 _, ?_, rfl, ?_, ?_, rfl⟩ <;> cases p <;> rfl
  · exact ⟨keepsOthers_refl t p, rfl, rfl, rfl, rfl, (Nat.min_eq_right ho).symm⟩
end

end Sys2Proof.Machine
end

section
/-! # What a port that leaves UP discards and counts (R146, R147) -/
namespace Sys2Proof.Machine

theorem law_rxErrors {t : Trunk} (h : t.Law) (p : Port) : t.rxErrors p ≤ 65535 := by
  obtain ⟨ha, hb⟩ := h.rxErrors
  cases p
  · exact ha
  · exact hb

theorem law_drops {t : Trunk} (h : t.Law) (p : Port) : t.drops p ≤ 65535 ∧ t.ownDrops ≤ 65535 := by
  obtain ⟨ha, hb, ho⟩ := h.drops
  cases p
  · exact ⟨ha, ho⟩
  · exact ⟨hb, ho⟩

/-- The four discards together: what they leave of the port's queues and counters. -/
theorem leaveUp_spec {t : Trunk} (hlaw : t.Law) (p : Port) :
    t.KeepsOthers (t.leaveUp p) p ∧ (t.leaveUp p).queue p = [] ∧
      (t.leaveUp p).own = (if t.headPort = some p then [] else t.own) ∧ (t.leaveUp p).arbiter = 0 ∧
      (t.leaveUp p).rxErrors p = min 65535 (t.rxErrors p + if (t.port p).receiving.isSome then 1 else 0) ∧
      (t.leaveUp p).drops p =
        min 65535 (t.drops p + (t.queue p).length + if (t.port p).sending.map Prod.snd = some .transit then 1 else 0) ∧
      (t.leaveUp p).ownDrops =
        min 65535 (t.ownDrops + (if t.headPort = some p then t.own.length else 0) +
          if (t.port p).sending.map Prod.snd = some .own then 1 else 0) := by
  obtain ⟨hd, ho⟩ := law_drops hlaw p
  obtain ⟨k1, q1, own1, rx1, d1, od1⟩ := dropArriving_spec t p (law_rxErrors hlaw p)
  have hd1 : (t.dropArriving p).drops p ≤ 65535 := d1 ▸ hd
  have ho1 : (t.dropArriving p).ownDrops ≤ 65535 := od1 ▸ ho
  obtain ⟨k2, q2, own2, rx2, d2, od2⟩ := dropTransmitted_spec (t.dropArriving p) p hd1 ho1
  obtain ⟨k3, q3, own3, rx3, d3, od3⟩ := dropTransit_spec ((t.dropArriving p).dropTransmitted p) p
  have ho3 : (((t.dropArriving p).dropTransmitted p).dropTransit p).ownDrops ≤ 65535 := by
    rw [od3, od2]
    exact Nat.min_le_left _ _
  obtain ⟨k4, q4, own4, rx4, d4, od4⟩ := dropOwn_spec (((t.dropArriving p).dropTransmitted p).dropTransit p) p ho3
  have hhead : (((t.dropArriving p).dropTransmitted p).dropTransit p).headPort = t.headPort :=
    k3.headPort.trans (k2.headPort.trans k1.headPort)
  have hkeeps := keepsOthers_trans k1 (keepsOthers_trans k2 (keepsOthers_trans k3 k4))
  have harb := keepsOthers_own ((((t.dropArriving p).dropTransmitted p).dropTransit p).dropOwn p) p
    ((((t.dropArriving p).dropTransmitted p).dropTransit p).dropOwn p).own 0
    ((((t.dropArriving p).dropTransmitted p).dropTransit p).dropOwn p).ownDrops
  have hq : ∀ u : Trunk, ({ u with arbiter := 0 } : Trunk).queue p = u.queue p := fun u => by cases p <;> rfl
  have hrx : ∀ u : Trunk, ({ u with arbiter := 0 } : Trunk).rxErrors p = u.rxErrors p := fun u => by cases p <;> rfl
  have hdr : ∀ u : Trunk, ({ u with arbiter := 0 } : Trunk).drops p = u.drops p := fun u => by cases p <;> rfl
  refine ⟨keepsOthers_trans hkeeps harb, ?_, ?_, rfl, ?_, ?_, ?_⟩
  · exact (hq _).trans (q4.trans q3)
  · refine own4.trans ?_
    rw [hhead, own3, own2, own1]
  · exact (hrx _).trans (rx4.trans (rx3.trans (rx2.trans rx1)))
  · refine (hdr _).trans (d4.trans (d3.trans ?_))
    rw [q2, q1, d2, d1, k1.ports p]
    omega
  · refine od4.trans ?_
    rw [hhead, own3, own2, own1, od3, od2, od1, k1.ports p]
    omega

/-- Setting the state of one port leaves the queues and the counters. -/
theorem setPort_counters (t : Trunk) (p : Port) (x : PortState) (q : Port) :
    (t.setPort p x).queue q = t.queue q ∧ (t.setPort p x).rxErrors q = t.rxErrors q ∧
      (t.setPort p x).drops q = t.drops q ∧ (t.setPort p x).wrongSideA = t.wrongSideA ∧
      (t.setPort p x).wrongSideB = t.wrongSideB := by
  cases p <;> cases q <;> exact ⟨rfl, rfl, rfl, rfl, rfl⟩

theorem setPort_port (t : Trunk) (p : Port) (x : PortState) :
    (t.setPort p x).port p = x ∧ (t.setPort p x).port p.other = t.port p.other := by
  cases p <;> exact ⟨rfl, rfl⟩

/-- Settles O8. -/
theorem linkLossDiscardsAndCounts : Obligations.LinkLossDiscardsAndCounts := by
  intro p s c hr hc
  have hexec : exec c s = .next (s.setTrunk (s.trunk.goDown p)) := by
    rcases hc with rfl | rfl <;> exact exec_port hr (f := fun t => t.goDown p) rfl
  rw [hexec]
  refine ⟨fun hup hlaw => ?up, fun htraining => ?training, fun hdown => ?down⟩
  case up =>
    obtain ⟨hkeeps, hqueue, hown, harb, hrx, hdrops, hownDrops⟩ := leaveUp_spec hlaw p
    have hgo : s.trunk.goDown p = (s.trunk.leaveUp p).setPort p PortState.initial := by
      unfold Trunk.goDown
      rw [hup]
      rfl
    rw [hgo]
    obtain ⟨hq, hx, hd, hwa, hwb⟩ := setPort_counters (s.trunk.leaveUp p) p PortState.initial p
    obtain ⟨hq', hx', hd', -, -⟩ := setPort_counters (s.trunk.leaveUp p) p PortState.initial p.other
    obtain ⟨hp, hp'⟩ := setPort_port (s.trunk.leaveUp p) p PortState.initial
    exact ⟨_, rfl, ⟨rfl, rfl, rfl, rfl, rfl, rfl, rfl, rfl, rfl, rfl⟩, hp, hp'.trans (hkeeps.ports _),
      (Trunk.setPort_headPort _ _ _).trans hkeeps.headPort, (Trunk.setPort_address _ _ _).trans hkeeps.address,
      (Trunk.setPort_arbiter _ _ _).trans harb, hq.trans hqueue, hq'.trans hkeeps.queue,
      (Trunk.setPort_own _ _ _).trans hown, hx.trans hrx, hx'.trans hkeeps.rxErrors, hd.trans hdrops,
      hd'.trans hkeeps.drops, (Trunk.setPort_ownDrops _ _ _).trans hownDrops, hwa.trans hkeeps.wrongSide.1,
      hwb.trans hkeeps.wrongSide.2⟩
  case training =>
    unfold Trunk.goDown
    rw [htraining]
    rfl
  case down =>
    unfold Trunk.goDown
    rw [hdown, setTrunk_self]

end Sys2Proof.Machine
end

section
/-! # The bytes of a telegram (R166, R167, TABLES 8-II and 10-I to 10-IV) -/
namespace Sys2Proof.Machine

/-! ## Read back -/

theorem permittedLength_le {kind : Byte} {n : Nat} (h : permittedLength kind n = true) : n ≤ 40 := by
  rw [permittedLength, Bool.and_eq_true] at h
  exact of_decide_eq_true h.1

theorem bytes_eq (t : Telegram) :
    t.bytes = [t.kind, t.dest, t.source, t.tag.extractLsb' 8 8, t.tag.extractLsb' 0 8, byteOf t.payload.length] ++
      (t.payload ++ halfBytes (crc16 t.covered)) :=
  List.append_assoc _ _ _

theorem byteOf_toNat {n : Nat} (h : n ≤ 40) : (byteOf n).toNat = n :=
  (BitVec.toNat_ofNat n 8).trans (Nat.mod_eq_of_lt (by omega))

theorem good_bytes {t : Telegram} (h : t.lengthOk = true) :
    Received.good { symbolError := false, bytes := t.bytes } = true := by
  have hlen : (byteOf t.payload.length).toNat = t.payload.length := byteOf_toNat (permittedLength_le h)
  rw [good_iff]
  refine ⟨rfl, ?_, ?_⟩
  · rw [Bool.eq_false_iff, Ne, failsLength_iff (bytes_eq t), hlen]
    rintro (hp | hl)
    · exact Bool.false_ne_true (hp.symm.trans h)
    · exact hl (List.length_append ..)
  · rw [Bool.eq_false_iff, Ne, failsCheck_iff (c1 := (crc16 t.covered).extractLsb' 8 8)
      (c0 := (crc16 t.covered).extractLsb' 0 8) rfl]
    exact fun h => h ((halfBytes_eq_iff _ _ _).mp rfl)

theorem telegram_bytes (t : Telegram) : Received.telegram { symbolError := false, bytes := t.bytes } = some t := by
  have hpayload : (t.payload ++ halfBytes (crc16 t.covered)).take ((t.payload ++ halfBytes (crc16 t.covered)).length - 2)
      = t.payload := by
    rw [List.length_append, show (halfBytes (crc16 t.covered)).length = 2 from rfl, Nat.add_sub_cancel,
      List.take_left]
  rw [Received.telegram, bytes_eq]
  dsimp only [List.cons_append, List.nil_append]
  rw [hpayload, half_bytes]

/-! ## Permitted lengths (TABLE 10-II) -/

theorem permittedLength_iff (kind : Byte) (n : Nat) : permittedLength kind n = true ↔ n ≤ 40 ∧
    ∀ row ∈ [(1, [10]), (2, [18]), (3, [3]), (4, [0]), (5, [1]), (16, [5]), (17, [4, 7, 10, 13, 16, 19, 22]),
      (18, [4, 6, 8, 10, 12, 14, 16, 18, 20, 22, 24, 26, 28, 30, 32]), (19, [3]), (20, [1]), (21, [0]), (22, [1]),
      (23, [3]), (32, [4]), (33, (List.range 37).map (fun k => 4 + k)), (34, [4])],
      row.1 = kind.toNat → n ∈ row.2 := by
  unfold permittedLength
  generalize kind.toNat = k
  have hreport : n ≤ 40 → (4 ≤ n ↔ n ∈ (List.range 37).map fun k => 4 + k) := fun hn => by
    rw [List.mem_map]
    exact ⟨fun h => ⟨n - 4, List.mem_range.mpr (by omega), by omega⟩, fun ⟨k, _, h⟩ => by omega⟩
  rw [Bool.and_eq_true, decide_eq_true_eq, and_congr_right_iff]
  intro hn
  simp only [List.forall_mem_cons, List.not_mem_nil, false_implies, implies_true, and_true]
  split
  case h_15 =>
    simp only [decide_eq_true_eq, hreport hn]
    simp
  case h_17 => simp_all [eq_comm]
  all_goals simp
  all_goals omega

theorem crc16_append (bytes : List Byte) (b : Byte) : crc16 (bytes ++ [b]) =
    [7, 6, 5, 4, 3, 2, 1, 0].foldl
      (fun (reg : Half) (k : Nat) => if b.getLsbD k = reg.getLsbD 15 then reg <<< 1 else (reg <<< 1) ^^^ 0x1021#16)
      (crc16 bytes) := by
  have hbits : bitsOf b = [7, 6, 5, 4, 3, 2, 1, 0].map b.getLsbD := by
    simp [bitsOf, BitVec.getMsbD]
  have hbit : ∀ (reg : Half) (bit : Bool),
      crc16Bit reg bit = if bit = reg.getLsbD 15 then reg <<< 1 else (reg <<< 1) ^^^ 0x1021#16 := by
    intro reg bit
    have hmsb : reg.msb = reg.getLsbD 15 := by simp [BitVec.msb_eq_getLsbD_last]
    rw [crc16Bit, hmsb]
    by_cases h : bit = reg.getLsbD 15 <;> simp [h]
  rw [crc16, List.foldl_append, List.foldl_cons, List.foldl_nil, hbits, List.foldl_map]
  simp only [hbit]
  rfl

theorem crc16_check : crc16 [49, 50, 51, 52, 53, 54, 55, 56, 57] = 0x29B1#16 := by decide +kernel

/-! ## Layouts -/

theorem ofInt_toNat {w : Nat} (x : BitVec w) : BitVec.ofInt w (x.toNat : Int) = x := by
  rw [ofInt_natCast, BitVec.ofNat_toNat, BitVec.setWidth_eq]

theorem packed_byte (x : Byte) (r : List (Nat × Int)) : packed (field 1 x.toNat :: r) = x :: packed r := by
  rw [packed_field1, ofInt_toNat]

theorem packed_half (x : Half) (r : List (Nat × Int)) : packed (field 2 x.toNat :: r) = halfBytes x ++ packed r := by
  rw [packed_field2, int16, ofInt_toNat]

theorem packed_word (x : Word) (r : List (Nat × Int)) : packed (field 4 x.toNat :: r) = wordBytes x ++ packed r := by
  rw [packed_field4, int32, ofInt_toNat]

theorem packed_signedByte (x : Byte) (r : List (Nat × Int)) : packed (field 1 x.toInt :: r) = x :: packed r := by
  rw [packed_field1, BitVec.ofInt_toInt]

theorem packed_signedWord (x : Word) (r : List (Nat × Int)) :
    packed (field 4 x.toInt :: r) = wordBytes x ++ packed r := by
  rw [packed_field4, int32, BitVec.ofInt_toInt]

theorem packed_triplets (ts : List Triplet) :
    packed (ts.flatMap fun t => [field 1 t.cls.toNat, field 1 t.band.toNat, field 1 t.value.toNat]) =
      tripletBytes ts := by
  induction ts with
  | nil => rfl
  | cons t ts ih => rw [List.flatMap_cons, packed_append, ih, packed_byte, packed_byte, packed_byte]; rfl

theorem packed_values (vs : List Half) : packed (vs.map fun v => field 2 v.toNat) = valueBytes vs := by
  induction vs with
  | nil => rfl
  | cons v vs ih => rw [List.map_cons, packed_half, ih]; rfl

theorem telegram_eq {b : Body} {kind : Byte} {fields : List (Nat × Int)} (hk : b.kind = kind)
    (hp : packed fields = b.payload) (a : Arrival) :
    b.telegram a = { kind := kind, dest := a.dest, source := a.source, tag := a.tag, payload := packed fields } := by
  rw [hp, ← hk]
  rfl

theorem lengthOk_of_wf {b : Body} (h : b.wf = true) (a : Arrival) : (b.telegram a).lengthOk = true := by
  cases b with
  | tableWrite bank ts =>
    obtain ⟨h1, h7⟩ := of_decide_eq_true h
    show permittedLength 17 ((tripletBytes ts).length + 1) = true
    rw [tripletBytes_length]
    exact permittedLength_triplets h1 h7
  | tableThresholds bank first vs =>
    obtain ⟨h1, h15⟩ := of_decide_eq_true h
    show permittedLength 18 ((valueBytes vs).length + 2) = true
    rw [valueBytes_length]
    exact permittedLength_values h1 h15
  | _ => rfl

/-- Settles O15. -/
theorem telegramBytesReadBack : Obligations.TelegramBytesReadBack := by
  refine ⟨fun t h => ⟨good_bytes h, telegram_bytes t⟩, fun b a h => ⟨lengthOk_of_wf h a, body_of_telegram b a⟩,
    fun t => rfl, permittedLength_iff, ⟨crc16_check, rfl, crc16_append⟩, fun t => ⟨?covered, ?bytes⟩,
    fun b a => ?layout⟩
  case covered =>
    rw [packed_byte, packed_byte, packed_byte, packed_half, packed_field1, ofInt_natCast, packed_nil]
    rfl
  case bytes =>
    rw [packed_half, packed_nil, List.append_nil]
    rfl
  case layout =>
    cases b with
    | position x =>
      exact telegram_eq rfl
        (by rw [packed_half, packed_word, packed_half, packed_byte, packed_byte, packed_nil]; rfl) a
    | segment x =>
      refine telegram_eq rfl ?_ a
      simp only [packed_half, packed_word, packed_byte, packed_nil]
      rfl
    | withdraw g id => exact telegram_eq rfl (by rw [packed_byte, packed_half, packed_nil]; rfl) a
    | snapshot => rfl
    | enumerate n => exact telegram_eq rfl (packed_byte _ _) a
    | param i v => exact telegram_eq rfl (by rw [packed_byte, packed_signedWord, packed_nil]; rfl) a
    | tableWrite bank ts => exact telegram_eq rfl (by rw [packed_byte, packed_triplets]; rfl) a
    | tableThresholds bank first vs =>
      exact telegram_eq rfl (by rw [packed_append, packed_byte, packed_byte, packed_values]; rfl) a
    | tableTrim bank cls trim =>
      exact telegram_eq rfl (by rw [packed_byte, packed_byte, packed_signedByte]; rfl) a
    | bankVerify bank => exact telegram_eq rfl (packed_byte _ _) a
    | bankSwap => rfl
    | command code => exact telegram_eq rfl (packed_byte _ _) a
    | query i a1 a2 => exact telegram_eq rfl (by rw [packed_byte, packed_byte, packed_byte]; rfl) a

end Sys2Proof.Machine
end

section
/-! # Bands (R28) and the values along a segment (R1, R21, R22) -/
namespace Sys2Proof.Machine

/-! ## Bands -/

theorem getD_of_lt {α : Type} {xs : List α} {i : Nat} (h : i < xs.length) (d : α) : xs.getD i d = xs[i] := by
  rw [List.getD_eq_getElem?_getD, List.getElem?_eq_getElem h, Option.getD_some]

section
variable {xs : List Nat} (hasc : ∀ i, i + 1 < xs.length → xs.getD i 0 < xs.getD (i + 1) 0)
include hasc

theorem getD_le_getD {i j : Nat} (hij : i ≤ j) (hj : j < xs.length) : xs.getD i 0 ≤ xs.getD j 0 := by
  obtain ⟨d, rfl⟩ := Nat.exists_eq_add_of_le hij
  clear hij
  induction d with
  | zero => exact Nat.le_refl _
  | succ d ih => exact Nat.le_trans (ih (by omega)) (Nat.le_of_lt (hasc (i + d) hj))

/-- In an ascending list the elements at or below a value are the first ones, up to where the value falls. -/
theorem countP_of_boundary {v k : Nat} (hk : k ≤ xs.length) (hlow : ∀ i, i + 1 = k → xs.getD i 0 ≤ v)
    (hhigh : k < xs.length → v < xs.getD k 0) : xs.countP (fun t => decide (t ≤ v)) = k := by
  have htake : (xs.take k).countP (fun t => decide (t ≤ v)) = k := by
    rw [List.countP_eq_length.mpr, List.length_take, Nat.min_eq_left hk]
    intro t ht
    obtain ⟨i, hi, rfl⟩ := List.mem_iff_getElem.mp ht
    rw [List.length_take] at hi
    rw [List.getElem_take, ← getD_of_lt (d := 0) (by omega)]
    obtain ⟨k, rfl⟩ : ∃ m, k = m + 1 := ⟨k - 1, by omega⟩
    exact decide_eq_true (Nat.le_trans (getD_le_getD hasc (by omega) (by omega)) (hlow k rfl))
  have hdrop : (xs.drop k).countP (fun t => decide (t ≤ v)) = 0 := by
    rw [List.countP_eq_zero]
    intro t ht
    obtain ⟨i, hi, rfl⟩ := List.mem_iff_getElem.mp ht
    rw [List.length_drop] at hi
    rw [List.getElem_drop, ← getD_of_lt (d := 0) (by omega), decide_eq_true_eq, Nat.not_le]
    exact Nat.lt_of_lt_of_le (hhigh (by omega)) (getD_le_getD hasc (Nat.le_add_right k i) (by omega))
  rw [← List.take_append_drop k xs, List.countP_append, htake, hdrop, Nat.add_zero]
end

theorem band_of_boundary {b : Bank} (hlaw : b.Law) (hv : b.state = .verified) {speed k : Nat} (hk : k ≤ 15)
    (hlow : ∀ i, i + 1 = k → b.thresholds.getD i 0 ≤ speed) (hhigh : k < 15 → speed < b.thresholds.getD k 0) :
    b.band speed = k := by
  obtain ⟨hasc, -, -⟩ := (defect_eq_none_iff hlaw.thresholds).mp (hlaw.verified hv)
  refine countP_of_boundary (fun i hi => hasc i ?_) (hlaw.thresholds.symm ▸ hk) hlow fun h => hhigh ?_
  · have := hlaw.thresholds
    omega
  · exact hlaw.thresholds ▸ h

theorem entry_of_getElem? {b : Bank} {cls band : Nat} {row : List Nat} {e : Nat} (hrow : b.rows[cls]? = some row)
    (he : row[band]? = some e) : b.entry cls band = e := by
  rw [Bank.entry, Bank.row, List.getD_eq_getElem?_getD, List.getD_eq_getElem?_getD, hrow]
  dsimp only [Option.getD_some]
  rw [he]
  rfl

/-! ## Linear variation -/

theorem tdiv_eq_truncated (x : Int) (n : Nat) : x.tdiv n = truncated x n := by
  unfold truncated
  split
  · next h => exact Int.tdiv_eq_ediv_of_nonneg h
  · next h => rw [← Int.tdiv_eq_ediv_of_nonneg (by omega), Int.neg_tdiv, Int.neg_neg]

/-- The part of a difference that a part of the length takes lies between 0 and the difference. -/
theorem tdiv_between {d o l : Int} (hd : 0 ≤ d) (ho : 0 ≤ o) (hol : o ≤ l) (hl : 0 < l) :
    0 ≤ (d * o).tdiv l ∧ (d * o).tdiv l ≤ d := by
  rw [Int.tdiv_eq_ediv_of_nonneg (Int.mul_nonneg hd ho)]
  refine ⟨Int.ediv_nonneg (Int.mul_nonneg hd ho) (Int.le_of_lt hl), ?_⟩
  calc d * o / l ≤ d * l / l := Int.ediv_le_ediv hl (Int.mul_le_mul_of_nonneg_left hol hd)
    _ = d := Int.mul_ediv_cancel d (by omega)

theorem interpolate_between {a b o l : Int} (ho : 0 ≤ o) (hol : o ≤ l) (hl : 0 < l) :
    min a b ≤ interpolate a b o l ∧ interpolate a b o l ≤ max a b := by
  unfold interpolate
  rcases Int.le_total a b with hab | hba
  · obtain ⟨h0, h1⟩ := tdiv_between (d := b - a) (by omega) ho hol hl
    omega
  · obtain ⟨h0, h1⟩ := tdiv_between (d := a - b) (by omega) ho hol hl
    have hneg : ((b - a) * o).tdiv l = -((a - b) * o).tdiv l := by
      rw [← Int.neg_tdiv, ← Int.neg_mul, Int.neg_sub]
    omega

theorem interpolate_zero (a b l : Int) : interpolate a b 0 l = a := by
  rw [interpolate, Int.mul_zero, Int.zero_tdiv, Int.add_zero]

theorem sign_mul (h : Hand) (n : Nat) :
    h.sign * n = match h with
      | .none => (0 : Int)
      | .left => (n : Int)
      | .right => -(n : Int) := by
  cases h with
  | none => exact Int.zero_mul _
  | left => exact Int.one_mul _
  | right => exact (Int.neg_mul 1 _).trans (congrArg _ (Int.one_mul _))

/-- The value that varies along a segment: the entry's, in a SPIRAL toward the exit's. -/
def Segment.along (g : Segment) (f : Profile → Int) (x : Int) : Int :=
  match g.kind with
  | .constant => f g.entry
  | .spiral e => interpolate (f g.entry) (f e) (x - g.start) g.length

theorem target_eq_along (g : Segment) (b : Bank) (band : Nat) (x : Int) :
    g.target b band x = g.along (fun p => p.signedTarget b band) x := rfl

theorem cantAt_eq_along (g : Segment) (x : Int) : g.cantAt x = g.along Profile.signedCant x := rfl

section
variable {g : Segment} (f : Profile → Int) {x : Int}

theorem along_constant (h : g.kind = .constant) : g.along f x = f g.entry := by
  rw [Segment.along, h]

theorem along_spiral {e : Profile} (h : g.kind = .spiral e) :
    g.along f x = f g.entry + truncated ((f e - f g.entry) * (x - g.start)) g.length := by
  rw [← tdiv_eq_truncated, Segment.along, h]
  rfl

theorem along_start : g.along f g.start = f g.entry := by
  unfold Segment.along
  split
  · rfl
  · rw [Int.sub_self, interpolate_zero]

theorem along_between (h0 : (g.start : Int) ≤ x) (h1 : x < (g.start + g.length : Nat)) :
    min (f g.entry) (f g.exit) ≤ g.along f x ∧ g.along f x ≤ max (f g.entry) (f g.exit) := by
  cases hk : g.kind with
  | constant =>
    rw [along_constant f hk, Segment.exit, hk]
    exact ⟨Int.min_le_left _ _, Int.le_max_left _ _⟩
  | spiral e =>
    rw [Segment.along, Segment.exit, hk]
    exact interpolate_between (o := x - g.start) (l := g.length) (by omega) (by omega) (by omega)
end

/-- Settles O23. -/
theorem segmentValuesLieBetweenItsProfiles : Obligations.SegmentValuesLieBetweenItsProfiles := by
  refine ⟨fun b speed => ⟨List.countP_eq_length_filter, fun hlaw => ?_, fun hlaw hv => ⟨?_, ?_, ?_⟩,
    fun cls band row e => entry_of_getElem?⟩, fun g b band x h0 h1 => ?_⟩
  · exact Nat.le_trans List.countP_le_length (Nat.le_of_eq hlaw.thresholds)
  · exact fun h => band_of_boundary hlaw hv (by omega) (fun i hi => absurd hi (by omega)) fun _ => h
  · intro i hi hlow hhigh
    exact band_of_boundary hlaw hv (by omega) (fun j hj => (by omega : j = i) ▸ hlow) fun _ => hhigh
  · exact fun h => band_of_boundary hlaw hv (by omega) (fun i hi => (by omega : i = 14) ▸ h) fun h => absurd h (by omega)
  · intro signed target cant
    have htarget : target = fun p => p.signedTarget b band := funext fun p => (sign_mul _ _).symm
    have hcant : cant = Profile.signedCant := funext fun p => (sign_mul _ _).symm
    rw [htarget, hcant, target_eq_along, cantAt_eq_along, target_eq_along, cantAt_eq_along]
    obtain ⟨t0, t1⟩ := along_between (fun p => p.signedTarget b band) h0 h1
    obtain ⟨c0, c1⟩ := along_between Profile.signedCant h0 h1
    exact ⟨fun h => ⟨along_constant _ h, along_constant _ h⟩, fun e h => ⟨along_spiral _ h, along_spiral _ h⟩,
      along_start _, along_start _, t0, t1, c0, c1⟩

end Sys2Proof.Machine
end

section
/-! # The replies of the management handler and the refused queries (R113, R160, R162) -/
namespace Sys2Proof.Machine

theorem bankOf_none {b : Byte} (h1 : b ≠ 1) (h2 : b ≠ 2) : bankOf b = none := by
  unfold bankOf
  split
  · next h => exact absurd (BitVec.eq_of_toNat_eq h) h1
  · next h => exact absurd (BitVec.eq_of_toNat_eq h) h2
  · rfl

theorem bankOf_some {b : Byte} (h : b = 1 ∨ b = 2) : ∃ n : BankName, bankOf b = some n := by
  rcases h with rfl | rfl
  · exact ⟨.A, rfl⟩
  · exact ⟨.B, rfl⟩

theorem replyHead_none (echo result : Byte) : replyHead echo result none = [echo, result, 0, 0] := rfl

theorem replyHead_some (echo result : Byte) (n : Nat) :
    replyHead echo result (some n) = [echo, result, 1, BitVec.ofNat 8 n] := rfl

section
variable {s : State} {a : Arrival} (h : s.Delivers a)
include h

theorem addressByte_of_delivers : s.trunk.addressByte = a.dest := by
  rw [Trunk.addressByte, h.own]
  simp [byteOf]

theorem acked_eq (kind result : Byte) (detail : Option Nat) :
    s.acked a kind result detail = (s.trunk.endReceiving a.port).placeOwn
      { kind := 32, dest := 32, source := a.dest, tag := a.tag, payload := replyHead kind result detail } := by
  rw [State.acked, Trunk.ackTelegram, Trunk.originate, addressByte_of_delivers h]
  rfl

theorem reported_eq (item result : Byte) (detail : Option Nat) (contents : List Byte) :
    s.reported a item result detail contents = (s.trunk.endReceiving a.port).placeOwn
      { kind := 33, dest := 32, source := a.dest, tag := a.tag
        payload := replyHead item result detail ++ contents } := by
  rw [State.reported, Trunk.reportTelegram, Trunk.originate, addressByte_of_delivers h]
  rfl

/-! A delivered QUERY is answered by its item's answer. -/

section
variable (x y : Byte)

theorem exec_queryStatus : exec (.queryStatus a x y) s = .next ((s.taken a.port).answerStatus a.tag) :=
  exec_delivered h (.query 1 x y) rfl rfl rfl

theorem exec_queryWindow : exec (.queryWindow a x y) s = .next ((s.taken a.port).answerWindow a.tag) :=
  exec_delivered h (.query 2 x y) rfl rfl rfl

theorem exec_querySegment : exec (.querySegment a x y) s = .next ((s.taken a.port).answerSegment a.tag x) :=
  exec_delivered h (.query 3 x y) rfl rfl rfl

theorem exec_queryTableRow : exec (.queryTableRow a x y) s = .next ((s.taken a.port).answerTableRow a.tag x y) :=
  exec_delivered h (.query 4 x y) rfl rfl rfl

theorem exec_queryThresholds : exec (.queryThresholds a x y) s = .next ((s.taken a.port).answerThresholds a.tag x) :=
  exec_delivered h (.query 5 x y) rfl rfl rfl

theorem exec_queryFaults : exec (.queryFaults a x y) s = .next ((s.taken a.port).answerFaults a.tag x) :=
  exec_delivered h (.query 6 x y) rfl rfl rfl

theorem exec_querySnapshot : exec (.querySnapshot a x y) s = .next ((s.taken a.port).answerSnapshot a.tag) :=
  exec_delivered h (.query 7 x y) rfl rfl rfl

theorem exec_querySnapshotPeek : exec (.querySnapshotPeek a x y) s = .next ((s.taken a.port).answerSnapshotPeek a.tag) :=
  exec_delivered h (.query 8 x y) rfl rfl rfl

theorem exec_queryParam : exec (.queryParam a x y) s = .next ((s.taken a.port).answerParam a.tag x) :=
  exec_delivered h (.query 9 x y) rfl rfl rfl

theorem exec_queryCounters : exec (.queryCounters a x y) s = .next ((s.taken a.port).answerCounters a.tag) :=
  exec_delivered h (.query 10 x y) rfl rfl rfl

theorem exec_malformedQuery (item : Byte) :
    exec (.malformedQuery a item x y) s = .next ((s.taken a.port).takeQuery a.tag item x y) :=
  exec_delivered h (.query item x y) rfl rfl rfl
end

/-- A query that is refused gets a REPORT without contents. -/
theorem refused_eq (item result : Byte) (detail : Option Nat) :
    (s.taken a.port).report item a.tag result detail [] =
      { s with
        trunk := (s.trunk.endReceiving a.port).placeOwn
          { kind := 33, dest := 32, source := a.dest, tag := a.tag, payload := replyHead item result detail } } := by
  rw [report_of_taken (s := s) rfl, reported_eq h, List.append_nil]
  rfl
end

section
variable (s : State) (tag : Half)

theorem takeQuery_malformed {item : Byte} (h : item.toNat = 0 ∨ 10 < item.toNat) (x y : Byte) :
    s.takeQuery tag item x y = s.report item tag 8 none [] := by
  unfold State.takeQuery
  split
  case h_11 => rfl
  all_goals omega

theorem answerTableRow_malformed {x : Byte} (h : bankOf x = none) (y : Byte) :
    s.answerTableRow tag x y = s.report 4 tag 8 none [] := by
  rw [State.answerTableRow, h]
  rfl

theorem answerThresholds_malformed {x : Byte} (h : bankOf x = none) :
    s.answerThresholds tag x = s.report 5 tag 8 none [] := by
  rw [State.answerThresholds, h]
  rfl

theorem answerTableRow_range {x y : Byte} {b : BankName} (h : bankOf x = some b) (hy : 31 < y.toNat) :
    s.answerTableRow tag x y = s.report 4 tag 4 (some 2) [] := by
  rw [State.answerTableRow, h]
  exact if_pos hy

theorem answerFaults_range {x : Byte} (h : 7 < x.toNat) : s.answerFaults tag x = s.report 6 tag 4 (some 1) [] :=
  if_pos h

theorem answerParam_range {x : Byte} (h : paramOf x = none) : s.answerParam tag x = s.report 9 tag 4 (some 1) [] := by
  rw [State.answerParam, h]
  rfl

theorem takeCommand_malformed {code : Byte} (h : code.toNat = 0 ∨ 5 < code.toNat) :
    s.takeCommand tag code = s.ackCommand tag 8 none := by
  unfold State.takeCommand
  split
  case h_6 => rfl
  all_goals omega
end

/-- Settles O50. -/
theorem requestsOutOfRangeAreRefused : Obligations.RequestsOutOfRangeAreRefused := by
  intro a x y s h reply head refuses
  have hhead : ∀ first result detail, replyHead first result detail = head first result detail := by
    rintro first result (_ | n)
    · exact replyHead_none first result
    · exact replyHead_some first result n
  have hrefuses : ∀ {c : Instr} {item result : Byte} {detail : Option Nat},
      exec c s = .next ((s.taken a.port).report item a.tag result detail []) → refuses c item result detail := by
    intro c item result detail hc
    show exec c s = _
    rw [hc, refused_eq h, hhead]
  refine ⟨fun kind result detail => ?acks, fun item result detail contents => ?reports, fun item hitem => ?noItem,
    fun h1 h2 => ⟨?row, ?thresholds⟩, fun hx hy => ?rowRange, fun hx => ?faults, fun hx => ?param,
    fun code hcode => ?command⟩
  case acks => rw [acked_eq h, hhead]
  case reports => rw [reported_eq h, hhead]
  case noItem => exact hrefuses (by rw [exec_malformedQuery h x y, takeQuery_malformed _ _ hitem])
  case row => exact hrefuses (by rw [exec_queryTableRow h x y, answerTableRow_malformed _ _ (bankOf_none h1 h2)])
  case thresholds =>
    exact hrefuses (by rw [exec_queryThresholds h x y, answerThresholds_malformed _ _ (bankOf_none h1 h2)])
  case rowRange =>
    obtain ⟨b, hb⟩ := bankOf_some hx
    exact hrefuses (by rw [exec_queryTableRow h x y, answerTableRow_range _ _ hb hy])
  case faults => exact hrefuses (by rw [exec_queryFaults h x y, answerFaults_range _ _ hx])
  case param => exact hrefuses (by rw [exec_queryParam h x y, answerParam_range _ _ (paramOf_none hx)])
  case command =>
    rw [exec_delivered h (.command code) rfl rfl rfl]
    show Host.Outcome.next ((s.taken a.port).takeCommand a.tag code) = _
    rw [takeCommand_malformed _ _ hcode, ackCommand_of_taken (s := s) rfl, acked_eq h]
    rfl

end Sys2Proof.Machine
end

section
/-! # The contents of the ten query items (R26, R42, R143, R163 to R165, R168, TABLES 9-III and 10-IX) -/
namespace Sys2Proof.Machine

/-! ## Fields -/

theorem packed_nat1 (n : Nat) (r : List (Nat × Int)) : packed (field 1 n :: r) = byteOf n :: packed r := by
  rw [packed_field1, ofInt_natCast]
  rfl

theorem packed_nat2 (n : Nat) (r : List (Nat × Int)) : packed (field 2 n :: r) = nat16 n ++ packed r := by
  rw [packed_field2, int16, ofInt_natCast]
  rfl

theorem packed_nat4 (n : Nat) (r : List (Nat × Int)) : packed (field 4 n :: r) = nat32 n ++ packed r := by
  rw [packed_field4, int32, ofInt_natCast]
  rfl

/-- A list of fields packed one record after the other. -/
theorem packed_flatMap {α : Type} {f : α → List (Nat × Int)} {g : α → List Byte} (h : ∀ x, packed (f x) = g x)
    (xs : List α) : packed (xs.flatMap f) = (xs.map g).flatten := by
  induction xs with
  | nil => rfl
  | cons x xs ih => rw [List.flatMap_cons, packed_append, h, ih, List.map_cons, List.flatten_cons]

theorem packed_map {α : Type} {f : α → Nat × Int} {g : α → List Byte} (h : ∀ x r, packed (f x :: r) = g x ++ packed r)
    (xs : List α) : packed (xs.map f) = (xs.map g).flatten := by
  induction xs with
  | nil => rfl
  | cons x xs ih => rw [List.map_cons, h, ih, List.map_cons, List.flatten_cons]

theorem map_range_getD {xs : List Nat} {n : Nat} (h : xs.length = n) {β : Type} (f : Nat → β) :
    ((List.range n).map fun i => f (xs.getD i 0)) = xs.map f := by
  subst h
  refine List.ext_getElem (by simp) fun i h1 h2 => ?_
  rw [List.length_map] at h2
  rw [List.getElem_map, List.getElem_range, List.getElem_map, getD_of_lt h2]

/-! ## Coded fields (TABLE 10-X) -/

section
variable (r : List (Nat × Int))

theorem packed_nodeState (x : NodeState) :
    packed (codeField [NodeState.offline, .standby, .active, .winddown, .safe] x :: r) = x.code :: packed r := by
  cases x <;> exact packed_codeField _ _ _

theorem packed_stage (x : Stage) :
    packed (codeField [none, some Stage.fresh, some .stale, some .lost] (some x) :: r) = x.code :: packed r := by
  cases x <;> exact packed_codeField _ _ _

theorem packed_bankName (x : BankName) :
    packed (codeField [none, some BankName.A, some .B] (some x) :: r) = x.code :: packed r := by
  cases x <;> exact packed_codeField _ _ _

theorem packed_bankState (x : BankState) :
    packed (codeField [BankState.empty, .loading, .verified] x :: r) = x.code :: packed r := by
  cases x <;> exact packed_codeField _ _ _

theorem packed_channelState (x : ChannelState) :
    packed (codeField [none, some ChannelState.locked, some .unlocking, some .tracking, some .returning, some .locking,
      some .failed] (some x) :: r) = x.code :: packed r := by
  cases x <;> exact packed_codeField _ _ _

theorem packed_lockState (x : LockState) :
    packed (codeField [none, some LockState.engaged, some .travelling, some .released] (some x) :: r) =
      x.code :: packed r := by
  cases x <;> exact packed_codeField _ _ _

theorem packed_noLockState :
    packed (codeField [none, some LockState.engaged, some .travelling, some .released] none :: r) = 0 :: packed r :=
  packed_codeField _ _ _

theorem packed_hand (x : Hand) : packed (codeField [Hand.none, .left, .right] x :: r) = x.code :: packed r := by
  cases x <;> exact packed_codeField _ _ _

theorem packed_granularity (x : Granularity) :
    packed (codeField [Granularity.none, .one, .from, .all] x :: r) = x.code :: packed r := by
  cases x <;> exact packed_codeField _ _ _

theorem packed_direction (x : Direction) :
    packed (codeField [Direction.forward, .backward] x :: r) = x.code :: packed r := by
  cases x <;> exact packed_codeField _ _ _

theorem packed_headPort (x : Option Port) :
    packed (codeField [none, some Port.A, some .B] x :: r) = headPortCode x :: packed r := by
  rcases x with _ | _ | _ <;> exact packed_codeField _ _ _

theorem packed_reason (x : RefusalReason) :
    packed (codeField [none, some RefusalReason.malformed, some .order, some .gap, some .mismatch, some .full]
      (some x) :: r) = byteOf x.code :: packed r := by
  cases x <;> exact packed_codeField _ _ _

theorem packed_faultClass (x : FaultClass) :
    packed (codeField [none, some FaultClass.liveness, some .odometry, some .drive, some .feedback, some .tracking,
      some .unlockTimeout, some .lockTimeout, some .lockLost, some .window, some .enumeration] (some x) :: r) =
      x.code :: packed r := by
  cases x <;> exact packed_codeField _ _ _

theorem packed_channel (x : Option Channel) :
    packed (codeField [none, some Channel.CH1, some .CH2] x :: r) = channelCode x :: packed r := by
  rcases x with _ | _ | _ <;> exact packed_codeField _ _ _

theorem packed_link (x : LinkState) :
    packed (codeField [LinkState.down, .training, .up] x :: r) = x.code :: packed r := by
  cases x <;> exact packed_codeField _ _ _

theorem packed_rate (x : Option Rate) :
    packed (codeField [none, some Rate.kbit1250, some .kbit2500, some .kbit5000] x :: r) = rateCode x :: packed r := by
  rcases x with _ | _ | _ | _ <;> exact packed_codeField _ _ _
end

/-! ## Records -/

/-- The four fields of a channel. -/
def ChannelView.fields (v : ChannelView) : List (Nat × Int) :=
  [codeField [none, some ChannelState.locked, some .unlocking, some .tracking, some .returning, some .locking,
      some .failed] (some v.state), field 1 v.lastDemand, field 2 ((v.feedback.map Prod.fst).getD 0),
    codeField [none, some LockState.engaged, some .travelling, some .released] (v.feedback.map Prod.snd)]

theorem packed_channelView (v : ChannelView) : packed v.fields = v.bytes := by
  rw [ChannelView.fields, ChannelView.bytes, packed_channelState, packed_field1, packed_field2]
  rcases v.feedback with _ | ⟨angle, lock⟩
  · rw [Option.map_none, Option.map_none, packed_noLockState, packed_nil]
    rfl
  · rw [Option.map_some, Option.map_some, packed_lockState, packed_nil]
    rfl

def Profile.fields (p : Profile) : List (Nat × Int) :=
  [field 1 p.cls, codeField [Hand.none, .left, .right] p.hand, field 1 p.cant]

theorem packed_profile (p : Profile) : packed p.fields = p.bytes := by
  rw [Profile.fields, packed_nat1, packed_hand, packed_nat1]
  rfl

/-- The fields of a segment record; the exit bytes of a CONSTANT segment are 0. -/
def Segment.fields (g : Segment) : List (Nat × Int) :=
  [flagField true, field 2 g.id, field 4 g.start, field 2 g.length, field 1 (if g.kind = .constant then 0 else 1)] ++
    g.entry.fields ++ (if g.kind = .constant then [field 1 0, field 1 0, field 1 0] else g.exit.fields) ++
    [field 1 (g.tiltLimit.getD 0), field 1 (g.rateLimit.getD 0),
      field 1 ((if g.tiltLimit.isSome then 1 else 0) + (if g.rateLimit.isSome then 2 else 0) +
        if g.inhibit then 4 else 0)]

theorem packed_kind (g : Segment) (r : List (Nat × Int)) :
    packed (field 1 (if g.kind = .constant then 0 else 1) :: r) = g.kind.bytes.1 :: packed r := by
  cases hk : g.kind with
  | constant => exact packed_field1 0 r
  | spiral e => exact packed_field1 1 r

theorem packed_exit (g : Segment) :
    packed (if g.kind = .constant then [field 1 0, field 1 0, field 1 0] else g.exit.fields) = g.kind.bytes.2 := by
  cases hk : g.kind with
  | constant => rfl
  | spiral e =>
    rw [if_neg (by simp), Segment.exit, hk]
    exact packed_profile e

theorem packed_flags (g : Segment) (r : List (Nat × Int)) :
    packed (field 1 ((if g.tiltLimit.isSome then 1 else 0) + (if g.rateLimit.isSome then 2 else 0) +
      if g.inhibit then 4 else 0) :: r) = g.flags :: packed r := by
  rw [packed_field1, Segment.flags]
  cases g.tiltLimit.isSome <;> cases g.rateLimit.isSome <;> cases g.inhibit <;> rfl

theorem packed_segment (g : Segment) : packed g.fields = 1 :: g.bytes := by
  rw [Segment.fields, packed_append, packed_append, packed_append, packed_exit, packed_profile, packed_flagField,
    packed_nat2, packed_nat4, packed_nat2, packed_kind, packed_nat1, packed_nat1, packed_flags, packed_nil, Segment.bytes]
  simp [flagByte]

/-- The fields of the snapshot register: the marker EMPTY, or LATCHED and the contents of TABLE 7-III. -/
def snapshotFields : Option Snapshot → List (Nat × Int)
  | none => [flagField false]
  | some p =>
    [flagField true, field 2 p.tag.toNat, codeField [NodeState.offline, .standby, .active, .winddown, .safe] p.node,
      codeField [none, some Stage.fresh, some .stale, some .lost] (some p.stage), flagField p.aligned, field 4 p.pNode,
      field 2 p.speed] ++ p.ch1.fields ++ p.ch2.fields ++
      [field 1 p.depth, codeField [none, some BankName.A, some .B] (some p.active)]

theorem packed_snapshot (r : Option Snapshot) : packed (snapshotFields r) = snapshotContents r := by
  cases r with
  | none => rfl
  | some p =>
    rw [snapshotFields, snapshotContents, packed_append, packed_append, packed_append, packed_channelView,
      packed_channelView, packed_flagField, packed_half, packed_nodeState, packed_stage, packed_flagField, packed_field4,
      packed_nat2, packed_nat1, packed_bankName, packed_nil]
    simp [flagByte]

/-- The fields of a fault record. -/
def FaultRecord.fields (r : FaultRecord) : List (Nat × Int) :=
  [field 1 r.sequence.toNat,
    codeField [none, some FaultClass.liveness, some .odometry, some .drive, some .feedback, some .tracking,
      some .unlockTimeout, some .lockTimeout, some .lockLost, some .window, some .enumeration] (some r.cls),
    codeField [none, some Channel.CH1, some .CH2] r.channel,
    codeField [NodeState.offline, .standby, .active, .winddown, .safe] r.node] ++
  optionalFields [4] (r.pNode.map (fun n => [field 4 n])) ++ [field 1 r.detail]

/-- Optional fields of a record that is packed to its bytes. -/
theorem packed_optional {α : Type} {f : α → List (Nat × Int)} {g : α → List Byte} (h : ∀ x, packed (f x) = g x)
    (sizes : List Nat) (o : Option α) :
    packed (optionalFields sizes (o.map f)) = optionalField sizes.sum (o.map g) := by
  rw [packed_optionalFields, Option.map_map, show packed ∘ f = g from funext h]

theorem packed_optional4 (o : Option Int) :
    packed (optionalFields [4] (o.map fun n => [field 4 n])) = optionalField 4 (o.map int32) :=
  packed_optional (fun n => (packed_field4 n []).trans (List.append_nil _)) [4] o

theorem packed_fault (r : FaultRecord) : packed r.fields = r.bytes := by
  rw [FaultRecord.fields, packed_append, packed_append, packed_optional4, packed_byte, packed_faultClass, packed_channel,
    packed_nodeState, packed_nat1, packed_nil]
  rfl

/-! ## The ten items -/

/-- The value that a STATUS report gives for a last fix jump: the jump, or the free value of one outside signed 32 bits
(log entry 28). -/
def shownJump (n : Int) : Int :=
  if -2147483648 ≤ n ∧ n ≤ 2147483647 then n else (Config.unstatedFixJump n).toInt

theorem int32_shownJump (n : Int) : int32 (shownJump n) = fixJumpBytes n := by
  unfold shownJump fixJumpBytes
  split
  · rfl
  · rw [int32, BitVec.ofInt_toInt]

theorem packed_status (s : State) (p : Port) :
    packed ([codeField [NodeState.offline, .standby, .active, .winddown, .safe] s.node.state,
        field 1 s.trunk.addressByte.toNat, codeField [none, some Port.A, some .B] s.trunk.headPort,
        codeField [none, some Stage.fresh, some .stale, some .lost] (some s.supervision.stage),
        flagField s.odometry.aligned, field 4 s.odometry.pNode, field 2 s.odometry.speed,
        codeField [Direction.forward, .backward] s.odometry.direction, field 1 s.odometry.discrepancies] ++
      optionalFields [4] ((s.odometry.lastFixJump.map shownJump).map (fun n => [field 4 n])) ++
      (s.channelView .CH1).fields ++ (s.channelView .CH2).fields ++
      [codeField [none, some BankName.A, some .B] (some s.tables.active),
        codeField [BankState.empty, .loading, .verified] s.tables.bankA.state,
        codeField [BankState.empty, .loading, .verified] s.tables.bankB.state,
        flagField s.tables.swapPending, field 1 s.window.segments.length, field 1 s.supervision.faults.length,
        flagField s.supervision.overflow]) = (s.taken p).statusContents := by
  have htaken : (s.taken p).statusContents = s.statusContents := by cases p <;> rfl
  have hjump : (s.odometry.lastFixJump.map shownJump).map int32 = s.odometry.lastFixJump.map fixJumpBytes := by
    rw [Option.map_map]
    exact congrArg (Option.map · _) (funext int32_shownJump)
  rw [htaken, State.statusContents, packed_append, packed_append, packed_append, packed_append, packed_optional4, hjump,
    packed_channelView, packed_channelView, packed_nodeState, packed_byte, packed_headPort, packed_stage,
    packed_flagField, packed_field4, packed_nat2, packed_direction, packed_nat1, packed_bankName, packed_bankState,
    packed_bankState, packed_flagField, packed_nat1, packed_nat1, packed_flagField, packed_nil]
  simp only [List.append_assoc, List.cons_append, List.nil_append]

theorem packed_ends (w : RouteWindow) :
    (w.segments.head?.bind fun h => w.segments.getLast?.map fun t =>
      [field 2 h.id, field 4 h.start, field 2 t.id, field 4 (t.start + t.length)]).map packed = w.ends := by
  unfold RouteWindow.ends
  rcases w.segments.head? with _ | h
  · rfl
  · rcases w.segments.getLast? with _ | t
    · rfl
    · have hstop : ((t.start : Int) + (t.length : Int)) = (t.stop : Nat) := (Int.natCast_add _ _).symm
      rw [Option.bind_some, Option.map_some, Option.map_some, hstop, packed_nat2, packed_nat4, packed_nat2, packed_nat4,
        packed_nil]
      simp only [List.append_assoc, List.append_nil]

def LastRefusal.fields (r : LastRefusal) : List (Nat × Int) :=
  [codeField [none, some RefusalReason.malformed, some .order, some .gap, some .mismatch, some .full] (some r.reason),
    field 2 r.id]

theorem packed_lastRefusal (r : LastRefusal) : packed r.fields = r.bytes := by
  rw [LastRefusal.fields, packed_reason, packed_nat2, packed_nil, List.append_nil]
  rfl

def LastWithdrawal.fields (r : LastWithdrawal) : List (Nat × Int) :=
  [codeField [Granularity.none, .one, .from, .all] r.requested] ++ optionalFields [2] (r.id.map (fun n => [field 2 n])) ++
    [codeField [Granularity.none, .one, .from, .all] r.performed, field 1 r.removed]

theorem packed_lastWithdrawal (r : LastWithdrawal) : packed r.fields = r.bytes := by
  rw [LastWithdrawal.fields, packed_append, packed_append, packed_optionalFields, packed_granularity,
    packed_granularity, packed_nat1, LastWithdrawal.bytes]
  rcases r.id with _ | n
  · rfl
  · exact congrArg (fun bs => [r.requested.code] ++ (1 :: bs) ++ [r.performed.code, byteOf r.removed])
      ((packed_nat2 n []).trans (List.append_nil _))

theorem packed_window (w : RouteWindow) :
    packed ([field 1 w.segments.length] ++
      optionalFields [2, 4, 2, 4] (w.segments.head?.bind (fun h => w.segments.getLast?.map (fun t =>
        [field 2 h.id, field 4 h.start, field 2 t.id, field 4 (t.start + t.length)]))) ++
      optionalFields [1, 2] (w.lastRefusal.map LastRefusal.fields) ++
      optionalFields [1, 1, 2, 1, 1] (w.lastWithdrawal.map LastWithdrawal.fields) ++
      [field 2 w.runouts]) = w.contents := by
  rw [packed_append, packed_append, packed_append, packed_append, packed_optionalFields,
    packed_optional packed_lastRefusal, packed_optional packed_lastWithdrawal, packed_ends, packed_nat1, packed_nat2,
    packed_nil, List.append_nil]
  rfl

theorem segmentContents_some {w : RouteWindow} {i : Nat} {g : Segment} (h : w.segments[i]? = some g) :
    packed g.fields = w.segmentContents i := by
  rw [packed_segment, RouteWindow.segmentContents, h]

theorem segmentContents_none {w : RouteWindow} {i : Nat} (h : w.segments.length ≤ i) :
    packed [flagField false] = w.segmentContents i := by
  rw [RouteWindow.segmentContents, List.getElem?_eq_none h]
  rfl

theorem row_length {b : Bank} (h : b.Law) {cls : Nat} (hcls : cls ≤ 31) : (b.row cls).length = 16 := by
  have hlt : cls < b.rows.length := by
    have := h.rows
    omega
  rw [Bank.row, getD_of_lt hlt]
  exact h.columns _ (List.getElem_mem hlt)

theorem packed_row {b : Bank} (h : b.Law) {cls : Nat} (hcls : cls ≤ 31) :
    packed ((List.range 16).map (fun band => field 1 (b.entry cls band))) = b.rowContents cls := by
  have hfields := map_range_getD (row_length h hcls) fun e : Nat => field 1 e
  refine (congrArg packed hfields).trans ((packed_map (g := fun n => [byteOf n]) packed_nat1 _).trans ?_)
  exact List.map_eq_flatMap.symm

theorem packed_thresholds {b : Bank} (h : b.Law) :
    packed ((List.range 15).map (fun i => field 2 (b.thresholds.getD i 0))) = b.thresholdContents := by
  rw [map_range_getD h.thresholds fun t : Nat => field 2 t]
  exact packed_map packed_nat2 _

theorem packed_faults (v : Supervision) (k : Nat) :
    packed ([field 1 ((v.faults.drop k).take 3).length, field 1 v.faults.length, flagField v.overflow,
        field 2 v.overflowCount, field 1 v.sequence.toNat] ++
      ((v.faults.drop k).take 3).flatMap FaultRecord.fields) = v.faultContents k := by
  rw [packed_append, packed_flatMap packed_fault, packed_nat1, packed_nat1, packed_flagField, packed_nat2, packed_byte]
  rfl

theorem packed_param (s : State) (x : Byte) (i : ParamId) :
    packed ([field 1 x.toNat, field 4 (s.params.get i), flagField (s.params.valid i)] ++
      optionalFields [4] (if i = .wheelFactor then s.odometry.stagedFactor.map (fun f => [field 4 f]) else none)) =
      s.paramContents x i := by
  have hstaged : (if i = .wheelFactor then s.odometry.stagedFactor.map (fun f => [field 4 f]) else none) =
      (s.stagedValue i).map fun f => [field 4 f] := by
    cases i <;> rfl
  rw [hstaged, packed_append, packed_optional4, packed_byte, packed_field4, packed_flagField, packed_nil,
    State.paramContents]
  simp only [List.append_assoc, List.cons_append, List.nil_append]

theorem packed_counters (s : State) (p : Port) :
    packed [field 2 s.trunk.rxErrorsA, field 2 s.trunk.rxErrorsB, field 2 s.trunk.wrongSideA, field 2 s.trunk.wrongSideB,
      field 2 s.trunk.dropsB, field 2 s.trunk.dropsA, field 2 s.trunk.ownDrops, field 2 s.odometry.stalePositions,
      field 2 s.window.refusals, field 2 s.odometry.phaseFaultTotal, field 2 s.supervision.ignoredSnapshots,
      field 2 s.tilt.ch1.lateFeedbacks, field 2 s.tilt.ch2.lateFeedbacks,
      codeField [LinkState.down, .training, .up] s.trunk.portA.link,
      codeField [none, some Rate.kbit1250, some .kbit2500, some .kbit5000] s.trunk.portA.rate,
      codeField [LinkState.down, .training, .up] s.trunk.portB.link,
      codeField [none, some Rate.kbit1250, some .kbit2500, some .kbit5000] s.trunk.portB.rate] =
      (s.taken p).counterContents := by
  have htaken : (s.taken p).counterContents = s.counterContents := by cases p <;> rfl
  rw [htaken, State.counterContents]
  simp only [packed_nat2, packed_link, packed_rate, packed_nil, List.append_assoc]

/-! ## The answers -/

section
variable {s : State} {a : Arrival} (h : s.Delivers a)
include h

/-- A query that is answered OK gets a REPORT with the packed fields. -/
theorem reportOk_eq (item : Byte) {contents : List Byte} {fields : List (Nat × Int)} (hc : packed fields = contents) :
    (s.taken a.port).reportOk item a.tag contents =
      { s with
        trunk := (s.trunk.endReceiving a.port).placeOwn
          { kind := 33, dest := 32, source := a.dest, tag := a.tag, payload := [item, 0, 0, 0] ++ packed fields } } := by
  rw [State.reportOk, report_of_taken (s := s) rfl, reported_eq h, hc]
  rfl

theorem answerSnapshot_eq :
    (s.taken a.port).answerSnapshot a.tag =
      { s with
        supervision := { s.supervision with snapshot := none }
        trunk := (s.trunk.endReceiving a.port).placeOwn
          { kind := 33, dest := 32, source := a.dest, tag := a.tag
            payload := [7, 0, 0, 0] ++ packed (snapshotFields s.supervision.snapshot) } } := by
  rw [State.answerSnapshot, State.reportOk, report_of_taken (s := s) rfl, reported_eq h, packed_snapshot]
  rfl

end

section
variable (s : State) (a : Arrival)

theorem answerTableRow_eq (b : BankName) {y : Byte} (hy : y.toNat ≤ 31) :
    (s.taken a.port).answerTableRow a.tag b.code y =
      (s.taken a.port).reportOk 4 a.tag ((s.tables.bank b).rowContents y.toNat) := by
  rw [State.answerTableRow, bankOf_code]
  exact if_neg (by omega)

theorem answerThresholds_eq (b : BankName) :
    (s.taken a.port).answerThresholds a.tag b.code =
      (s.taken a.port).reportOk 5 a.tag (s.tables.bank b).thresholdContents := by
  rw [State.answerThresholds, bankOf_code]
  rfl

theorem answerFaults_eq {x : Byte} (hx : x.toNat ≤ 7) :
    (s.taken a.port).answerFaults a.tag x = (s.taken a.port).reportOk 6 a.tag (s.supervision.faultContents x.toNat) :=
  if_neg (by omega)

theorem answerParam_eq {x : Byte} {i : ParamId} (hi : paramOf x = some i) :
    (s.taken a.port).answerParam a.tag x = (s.taken a.port).reportOk 9 a.tag (s.paramContents x i) := by
  rw [State.answerParam, hi]
  rfl
end

/-- Settles O49. -/
theorem queriesReportTheStateAsItStands : Obligations.QueriesReportTheStateAsItStands := by
  intro a x y s h report answers nodeState stage bankName bankState channel view profile granularity snapshot link rate
  have hok : ∀ {c : Instr} {item : Byte} {contents : List Byte} {fields : List (Nat × Int)},
      exec c s = .next ((s.taken a.port).reportOk item a.tag contents) → packed fields = contents →
        answers c item fields :=
    fun hc hp => hc.trans (congrArg _ (reportOk_eq h _ hp))
  have hsnapshot : snapshot = snapshotFields := by
    funext r
    cases r <;> rfl
  refine ⟨⟨s.odometry.lastFixJump.map shownJump, Option.isSome_map, fun n hn h1 h2 => ?jump, ?status⟩, ?window,
    fun g hg => ?segment, fun hx => ?noSegment, fun b hy hlaw => ?row, fun b hlaw => ?thresholds, fun hx => ?faults,
    ?snapshot, ?peek, fun i hi => ?param, ?counters⟩
  case jump => rw [hn, Option.map_some, shownJump, if_pos ⟨h1, h2⟩]
  case status =>
    have hstatus := packed_status s a.port
    rw [addressByte_of_delivers h] at hstatus
    exact hok (exec_queryStatus h x y) hstatus
  case window => exact hok (exec_queryWindow h x y) (packed_window s.window)
  case segment => exact hok (exec_querySegment h x y) (segmentContents_some hg)
  case noSegment => exact hok (exec_querySegment h x y) (segmentContents_none hx)
  case row =>
    exact hok ((exec_queryTableRow h b.code y).trans (congrArg _ (answerTableRow_eq s a b hy))) (packed_row hlaw hy)
  case thresholds =>
    exact hok ((exec_queryThresholds h b.code y).trans (congrArg _ (answerThresholds_eq s a b))) (packed_thresholds hlaw)
  case faults =>
    exact hok ((exec_queryFaults h x y).trans (congrArg _ (answerFaults_eq s a hx))) (packed_faults s.supervision x.toNat)
  case snapshot =>
    rw [hsnapshot]
    exact (exec_querySnapshot h x y).trans (congrArg _ (answerSnapshot_eq h))
  case peek =>
    rw [hsnapshot]
    exact hok (exec_querySnapshotPeek h x y) (packed_snapshot s.supervision.snapshot)
  case param =>
    exact hok ((exec_queryParam h x y).trans (congrArg _ (answerParam_eq s a hi))) (packed_param s x i)
  case counters => exact hok (exec_queryCounters h x y) (packed_counters s a.port)

end Sys2Proof.Machine
end
